-- ==== Sys2Proof/Word.lean ====
section
/-! DEFINITION. The word types of the block: bytes, frames, timer values and line levels. -/

namespace Sys2Proof

/-- An 8-bit operand, header or data byte (00_scope.md R7). -/
abbrev Byte := BitVec 8

/-- A 16-bit DALI forward frame, header in bits 15..8 and data in bits 7..0 (20_memory.md R63). -/
abbrev Frame := BitVec 16

/-- A 32-bit quantity: a baud rate, a half-bit period, a raw timer value (00_scope.md R7, R10). -/
abbrev Word32 := BitVec 32

/-- A timer value masked to 31 bits, `Now31()` (00_scope.md R10). -/
abbrev Time31 := BitVec 31

/-- One line level, held for one half-bit period as a symbol (00_scope.md glossary). -/
inductive Level where
  | low
  | high
  deriving DecidableEq, Repr

end Sys2Proof
end

