-- ==== Sys2Proof/Config.lean ====
section
/-! DEFINITION. The parameters of 00_scope.md R6, the OPEN ones as uninterpreted constants, and the free values that nothing constrains. -/

namespace Sys2Proof

/-- The class of a table command (30_encoding.md R103): C_SIMPLE, C_PARAM, C_SPECIAL. -/
inductive CmdClass where
  | simple
  | param
  | special
  deriving DecidableEq, Repr

/-- The transmit mode of a table command (30_encoding.md R103): M_SIMPLE, M_REPEAT, M_QUERY. -/
inductive TxMode where
  | simple
  | repeatTwice
  | query
  deriving DecidableEq, Repr

/-- How ENC_SPECIAL forms the data byte (10_state.md R41, 40_frame_codec.md R130). -/
inductive DataRule where
  | zero
  | data
  | addr6
  deriving DecidableEq, Repr

/-- One entry of `CMD_TABLE` (10_state.md R40): an opcode with its class and its own transmit mode. -/
structure CmdEntry where
  opcode : Byte
  cls : CmdClass
  tmode : TxMode
  deriving DecidableEq, Repr

/-- One entry of `SPECIAL_TABLE` (10_state.md R41). -/
structure SpecialEntry where
  opcode : Byte
  header : Byte
  rule : DataRule
  deriving DecidableEq, Repr

/-- The command tables, which a model takes as parameters (00_scope.md R6, 92 "Open parameters"). -/
structure Tables where
  cmdTable : List CmdEntry
  paramCmds : List Byte
  specialTable : List SpecialEntry
  deriving DecidableEq, Repr

namespace Config

/-! OPEN parameters (00_scope.md R6): no default, so an uninterpreted constant each (log 5). -/

/-- `MAX_RETRIES` of the built block (decision D17). -/
opaque maxRetries : Option Nat

/-- `NUM_PINS` of the built block (decision D25). -/
opaque numPins : Nat

/-- `RX_TIMEOUT_US` of the built block (decision D28). -/
opaque rxTimeoutUs : Nat

/-- `RX_LEAD` of the built block (decision D28). -/
opaque rxLead : Nat

/-- `RX_DECODE`: uninterpreted function of the used symbols `RX_SHIFT[2R-1:0]` and of R
(42_line_receiver.md R271; log 11). -/
opaque rxDecode : BitVec 32 → Nat → BitVec 16

/-! Free values, each applied to the draw counter of the state (log 1) or to nothing (log 12). -/

/-- What `Now()` returns at the given draw (60_exceptions.md R348). -/
opaque freeNow : Nat → Word32

/-- Whether `ReadPin` returns High at the given draw (60_exceptions.md R351). -/
opaque freePin : Nat → Bool

/-- What `IntDisableSave()` returns at the given draw (93 I15). -/
opaque freeToken : Nat → Nat

/-- The half-bit period for a baud rate of 0, which the spec gives no value and SETUP never
admits (41_line_encoder.md R220; log 12). -/
opaque freeHalfBit : Word32

end Config

/-- Which transmitter a built block has (00_scope.md R6, decision D19). -/
inductive TxVariant where
  | timerWait
  | busyDelay
  deriving DecidableEq, Repr

/-- The pull argument of `SetPinMode` (00_scope.md R10). -/
inductive Pull where
  | noPull
  | pullUp
  deriving DecidableEq, Repr

/-- The parameters of one built block (00_scope.md R6). State holds them; no step writes them (log 5). -/
structure Params where
  txVariant : TxVariant
  txInvert : Bool
  txPull : Pull
  rxPull : Pull
  maxRetries : Option Nat
  numPins : Nat
  rxTimeoutUs : Nat
  rxLead : Nat
  tables : Tables
  deriving DecidableEq, Repr

end Sys2Proof
end

