-- ==== Sys2Proof/Syntax.lean ====
section
/-! DEFINITION. The instructions of the block, one constructor per row of spec/opcode_table.json; the words of the table and the formats of its frames; and what is presented on the request port. -/

namespace Sys2Proof

/-- The address mode: codes 0, 1 and 2 of the mode field (30_encoding.md R102). -/
inductive Mode where
  | slave
  | group
  | broadcast
  deriving DecidableEq, Repr

/-- One constructor per row of the opcode table. The first eleven are the requests of
30_encoding.md R100. The rest are frame rows: one presented to the machine stands for the ARC
or SEND request that formats and sends its frame (log 3). -/
inductive Instr where
  | setup (baud : Word32) (txbits rxbits stop txpin rxpin : Byte)
  | arc (mode : Mode) (address brightness : Byte)
  | send (mode : Mode) (command address param : Byte)
  | transmit (value : BitVec 16)
  | receive
  | classify (command : Byte)
  | tmode (command : Byte)
  | encArc (mode : Mode) (address brightness : Byte)
  | encCmd (mode : Mode) (address command : Byte)
  | encParam (mode : Mode) (address command param : Byte)
  | encSpecial (command data : Byte)
  | directArcS (address brightness : Byte)
  | directArcG (address brightness : Byte)
  | directArcB (brightness : Byte)
  | off (mode : Mode) (address : Byte)
  | up (mode : Mode) (address : Byte)
  | down (mode : Mode) (address : Byte)
  | stepUp (mode : Mode) (address : Byte)
  | stepDown (mode : Mode) (address : Byte)
  | recallMaxLevel (mode : Mode) (address : Byte)
  | recallMinLevel (mode : Mode) (address : Byte)
  | stepDownAndOff (mode : Mode) (address : Byte)
  | onAndStepUp (mode : Mode) (address : Byte)
  | reset (mode : Mode) (address : Byte)
  | storeActualLevelInDtr (mode : Mode) (address : Byte)
  | storeDtrAsMaxLevel (mode : Mode) (address : Byte)
  | storeDtrAsMinLevel (mode : Mode) (address : Byte)
  | storeDtrAsSystemFailureLevel (mode : Mode) (address : Byte)
  | storeDtrAsPowerOnLevel (mode : Mode) (address : Byte)
  | storeDtrAsFadeTime (mode : Mode) (address : Byte)
  | storeDtrAsFadeRate (mode : Mode) (address : Byte)
  | queryStatus (mode : Mode) (address : Byte)
  | queryBallast (mode : Mode) (address : Byte)
  | queryLampFailure (mode : Mode) (address : Byte)
  | queryLampPowerOn (mode : Mode) (address : Byte)
  | queryLimitError (mode : Mode) (address : Byte)
  | queryResetState (mode : Mode) (address : Byte)
  | queryMissingShortAddress (mode : Mode) (address : Byte)
  | queryVersionNumber (mode : Mode) (address : Byte)
  | queryContentDtr (mode : Mode) (address : Byte)
  | queryDeviceType (mode : Mode) (address : Byte)
  | queryPhysicalMinimumLevel (mode : Mode) (address : Byte)
  | queryPowerFailure (mode : Mode) (address : Byte)
  | goToScene (mode : Mode) (address param : Byte)
  | storeDtrAsScene (mode : Mode) (address param : Byte)
  | removeFromScene (mode : Mode) (address param : Byte)
  | addToGroup (mode : Mode) (address param : Byte)
  | removeFromGroup (mode : Mode) (address param : Byte)
  | querySceneLevel (mode : Mode) (address param : Byte)
  | terminate (data : Byte)
  | dataTransferRegister (data : Byte)
  | initialise (data : Byte)
  | randomise (data : Byte)
  | compare (data : Byte)
  | withdraw (data : Byte)
  | searchaddrh (data : Byte)
  | searchaddrm (data : Byte)
  | searchaddrl (data : Byte)
  | programShortAddress (data : Byte)
  | verifyShortAddress (data : Byte)
  | queryShortAddress (data : Byte)
  | physicalSelection (data : Byte)
  | enableDeviceTypeX (data : Byte)
  deriving DecidableEq, Repr

/-- The request record, field by field as 30_encoding.md R100 lists it. -/
structure Request where
  op : BitVec 4
  mode : BitVec 2 := 0
  address : Byte := 0
  brightness : Byte := 0
  command : Byte := 0
  param : Byte := 0
  value : BitVec 16 := 0
  baud : Word32 := 0
  txbits : Byte := 0
  rxbits : Byte := 0
  stop : Byte := 0
  txpin : Byte := 0
  rxpin : Byte := 0
  deriving DecidableEq, Repr

/-- What a word of the opcode table is: a request record, or a frame (30_encoding.md R106). -/
inductive TableWord where
  | request (r : Request)
  | frame (f : Frame)
  deriving DecidableEq, Repr

/-- The format a frame is decoded back to, with its fields (30_encoding.md R90). -/
inductive FrameFormat where
  /-- ARC_S, ARC_G or ARC_B (30_encoding.md R81 to R83). -/
  | arc (mode : Mode) (address brightness : Byte)
  /-- CMD_S, CMD_G or CMD_B, PCMD among them; the data byte is the opcode (30_encoding.md R84 to R87). -/
  | command (mode : Mode) (address opcode : Byte)
  /-- SPC of the command with this header (30_encoding.md R88). -/
  | special (header data : Byte)
  /-- Any other header. -/
  | unassigned (header : Byte)
  deriving DecidableEq, Repr

/-- Why a word of the table is no instruction. -/
inductive DecodeError where
  /-- The op field is 0xB..0xF (60_exceptions.md R337). -/
  | unassignedOp (op : BitVec 4)
  /-- Mode code 3 on a request that reads the mode (30_encoding.md R102, 60_exceptions.md R337). -/
  | noSuchMode
  /-- A header the block never produces (30_encoding.md R89, R90). -/
  | unassignedHeader (header : Byte)
  /-- A command header whose data byte is no command of the table (30_encoding.md R106; log 20). -/
  | noTableCommand (data : Byte)
  /-- A special header whose data byte the command's data rule never produces (30_encoding.md R106; log 20). -/
  | badSpecialData (header data : Byte)
  deriving DecidableEq, Repr

/-- What stands on the request port. The block itself never decodes a frame (30_encoding.md R90): the
reader of the opcode table, outside the block, does, and presents the row it found (log 3). -/
inductive Presented where
  /-- A request record (30_encoding.md R100). -/
  | request (r : Request)
  /-- An instruction that the reader of the table has read. -/
  | row (i : Instr)
  /-- A frame in which the reader found no row. -/
  | unread (why : DecodeError)
  deriving DecidableEq, Repr

end Sys2Proof
end

