-- ==== Sys2Proof/WellFormed.lean ====
section
/-! DEFINITION. Well-formed instructions: operands that the row's encoding can carry. -/

namespace Sys2Proof

/-- The address a frame header can carry in each mode (30_encoding.md R84 to R86). A broadcast
frame carries none, so its operand is written 0 (30_encoding.md R104). -/
def Mode.encodable (mode : Mode) (address : Byte) : Bool :=
  match mode with
  | .slave => address.toNat ≤ 63
  | .group => address.toNat ≤ 15
  | .broadcast => address == 0

/-- Every operand has a place in the encoding. A request record has room for every operand value
(30_encoding.md R100); a frame has only the bits of its row (30_encoding.md R80). -/
def WellFormed (i : Instr) : Bool :=
  match i with
  | .setup _ _ _ _ _ _ => true
  | .arc _ _ _ => true
  | .send _ _ _ _ => true
  | .transmit _ => true
  | .receive => true
  | .classify _ => true
  | .tmode _ => true
  | .encArc _ _ _ => true
  | .encCmd _ _ _ => true
  | .encParam _ _ _ _ => true
  | .encSpecial _ _ => true
  | .directArcS address _ => address.toNat ≤ 63
  | .directArcG address _ => address.toNat ≤ 15
  | .directArcB _ => true
  | .off mode address => mode.encodable address
  | .up mode address => mode.encodable address
  | .down mode address => mode.encodable address
  | .stepUp mode address => mode.encodable address
  | .stepDown mode address => mode.encodable address
  | .recallMaxLevel mode address => mode.encodable address
  | .recallMinLevel mode address => mode.encodable address
  | .stepDownAndOff mode address => mode.encodable address
  | .onAndStepUp mode address => mode.encodable address
  | .reset mode address => mode.encodable address
  | .storeActualLevelInDtr mode address => mode.encodable address
  | .storeDtrAsMaxLevel mode address => mode.encodable address
  | .storeDtrAsMinLevel mode address => mode.encodable address
  | .storeDtrAsSystemFailureLevel mode address => mode.encodable address
  | .storeDtrAsPowerOnLevel mode address => mode.encodable address
  | .storeDtrAsFadeTime mode address => mode.encodable address
  | .storeDtrAsFadeRate mode address => mode.encodable address
  | .queryStatus mode address => mode.encodable address
  | .queryBallast mode address => mode.encodable address
  | .queryLampFailure mode address => mode.encodable address
  | .queryLampPowerOn mode address => mode.encodable address
  | .queryLimitError mode address => mode.encodable address
  | .queryResetState mode address => mode.encodable address
  | .queryMissingShortAddress mode address => mode.encodable address
  | .queryVersionNumber mode address => mode.encodable address
  | .queryContentDtr mode address => mode.encodable address
  | .queryDeviceType mode address => mode.encodable address
  | .queryPhysicalMinimumLevel mode address => mode.encodable address
  | .queryPowerFailure mode address => mode.encodable address
  | .goToScene mode address param => mode.encodable address && decide (param.toNat ≤ 15)
  | .storeDtrAsScene mode address param => mode.encodable address && decide (param.toNat ≤ 15)
  | .removeFromScene mode address param => mode.encodable address && decide (param.toNat ≤ 15)
  | .addToGroup mode address param => mode.encodable address && decide (param.toNat ≤ 15)
  | .removeFromGroup mode address param => mode.encodable address && decide (param.toNat ≤ 15)
  | .querySceneLevel mode address param => mode.encodable address && decide (param.toNat ≤ 15)
  | .terminate data => data == 0
  | .dataTransferRegister _ => true
  | .initialise _ => true
  | .randomise data => data == 0
  | .compare data => data == 0
  | .withdraw data => data == 0
  | .searchaddrh _ => true
  | .searchaddrm _ => true
  | .searchaddrl _ => true
  | .programShortAddress data => data.toNat ≤ 63
  | .verifyShortAddress data => data.toNat ≤ 63
  | .queryShortAddress data => data == 0
  | .physicalSelection data => data == 0
  | .enableDeviceTypeX _ => true

end Sys2Proof
end

