-- ==== Sys2Proof/Decode.lean ====
section
/-! DEFINITION. Decoding the words of the opcode table, total and rejecting by name; what their reader presents to the block; the encoder of well-formed instructions; and the numbering the opcode table uses. -/

namespace Sys2Proof

/-- The mode a mode code names; code 3 names none (30_encoding.md R102). -/
def modeOfCode (code : BitVec 2) : Option Mode :=
  match code.toNat with
  | 0 => some .slave
  | 1 => some .group
  | 2 => some .broadcast
  | _ => none

/-- The mode code of a mode (30_encoding.md R102). -/
def codeOfMode : Mode → BitVec 2
  | .slave => 0
  | .group => 1
  | .broadcast => 2

/-- A request that reads the mode field is refused when the code names no mode (30_encoding.md R102). -/
def withMode (code : BitVec 2) (build : Mode → Instr) : Except DecodeError Instr :=
  match modeOfCode code with
  | some mode => .ok (build mode)
  | none => .error .noSuchMode

/-- Decoding a request record by its op field; fields an operation does not list are ignored
(30_encoding.md R100, 60_exceptions.md R337). -/
def decodeRequest (r : Request) : Except DecodeError Instr :=
  match r.op.toNat with
  | 0 => .ok (.setup r.baud r.txbits r.rxbits r.stop r.txpin r.rxpin)
  | 1 => withMode r.mode fun mode => .arc mode r.address r.brightness
  | 2 => withMode r.mode fun mode => .send mode r.command r.address r.param
  | 3 => .ok (.transmit r.value)
  | 4 => .ok .receive
  | 5 => .ok (.classify r.command)
  | 6 => .ok (.tmode r.command)
  | 7 => withMode r.mode fun mode => .encArc mode r.address r.brightness
  | 8 => withMode r.mode fun mode => .encCmd mode r.address r.command
  | 9 => withMode r.mode fun mode => .encParam mode r.address r.command r.param
  | 10 => .ok (.encSpecial r.command r.param)
  | _ => .error (.unassignedOp r.op)

/-- The header byte of a frame, bits 15..8 (30_encoding.md R80). -/
def frameHeader (f : Frame) : Byte := f.extractLsb' 8 8

/-- The data byte of a frame, bits 7..0 (30_encoding.md R80). -/
def frameData (f : Frame) : Byte := f.extractLsb' 0 8

/-- A frame from its header and data bytes (20_memory.md R63). -/
def mkFrame (header data : Byte) : Frame := header ++ data

/-- `Hdr(mode, a, sel)` in 8 bits; the selector is 0 for a direct arc and 1 for a command
(30_encoding.md R91). -/
def headerByte (mode : Mode) (address : Byte) (sel : Bool) : Byte :=
  let s : Byte := if sel then 1 else 0
  match mode with
  | .slave => ((address &&& 0x3F) <<< 1) ||| s
  | .group => 0x80 ||| ((address &&& 0x0F) <<< 1) ||| s
  | .broadcast => 0xFE ||| s

/-- The mode and address a header byte carries, by the ranges of 30_encoding.md R89. -/
def headerAddress (header : Byte) : Option (Mode × Byte) :=
  if header.toNat < 0x80 then some (.slave, header >>> 1)
  else if header.toNat < 0xA0 then some (.group, (header >>> 1) &&& 0x0F)
  else if 0xFE ≤ header.toNat then some (.broadcast, 0)
  else none

/-- The data bytes of the plain command rows (40_frame_codec.md R150 to R178). -/
def plainRows : List (Byte × (Mode → Byte → Instr)) :=
  [(0x00, Instr.off),
   (0x01, Instr.up),
   (0x02, Instr.down),
   (0x03, Instr.stepUp),
   (0x04, Instr.stepDown),
   (0x05, Instr.recallMaxLevel),
   (0x06, Instr.recallMinLevel),
   (0x07, Instr.stepDownAndOff),
   (0x08, Instr.onAndStepUp),
   (0x20, Instr.reset)] ++
  [(0x21, Instr.storeActualLevelInDtr),
   (0x2A, Instr.storeDtrAsMaxLevel),
   (0x2B, Instr.storeDtrAsMinLevel),
   (0x2C, Instr.storeDtrAsSystemFailureLevel),
   (0x2D, Instr.storeDtrAsPowerOnLevel),
   (0x2E, Instr.storeDtrAsFadeTime),
   (0x2F, Instr.storeDtrAsFadeRate),
   (0x90, Instr.queryStatus),
   (0x91, Instr.queryBallast),
   (0x92, Instr.queryLampFailure)] ++
  [(0x93, Instr.queryLampPowerOn),
   (0x94, Instr.queryLimitError),
   (0x95, Instr.queryResetState),
   (0x96, Instr.queryMissingShortAddress),
   (0x97, Instr.queryVersionNumber),
   (0x98, Instr.queryContentDtr),
   (0x99, Instr.queryDeviceType),
   (0x9A, Instr.queryPhysicalMinimumLevel),
   (0x9B, Instr.queryPowerFailure)]

/-- The opcodes of the with-parameter command rows, parameter 0 (40_frame_codec.md R179 to R184). -/
def paramRows : List (Byte × (Mode → Byte → Byte → Instr)) :=
  [(0x10, Instr.goToScene),
   (0x40, Instr.storeDtrAsScene),
   (0x50, Instr.removeFromScene),
   (0x60, Instr.addToGroup),
   (0x70, Instr.removeFromGroup),
   (0xB0, Instr.querySceneLevel)]

/-- The headers of the special command rows with their data rules (40_frame_codec.md R185 to R198). -/
def specialRows : List (Byte × DataRule × (Byte → Instr)) :=
  [(0xA1, DataRule.zero, Instr.terminate),
   (0xA3, DataRule.data, Instr.dataTransferRegister),
   (0xA5, DataRule.data, Instr.initialise),
   (0xA7, DataRule.zero, Instr.randomise),
   (0xA9, DataRule.zero, Instr.compare),
   (0xAB, DataRule.zero, Instr.withdraw),
   (0xB1, DataRule.data, Instr.searchaddrh)] ++
  [(0xB3, DataRule.data, Instr.searchaddrm),
   (0xB5, DataRule.data, Instr.searchaddrl),
   (0xB7, DataRule.addr6, Instr.programShortAddress),
   (0xB9, DataRule.addr6, Instr.verifyShortAddress),
   (0xBB, DataRule.zero, Instr.queryShortAddress),
   (0xBD, DataRule.zero, Instr.physicalSelection),
   (0xC1, DataRule.data, Instr.enableDeviceTypeX)]

/-- The data operand a special frame's data byte carries under a data rule, if the rule can produce
that byte (40_frame_codec.md R130, 30_encoding.md R95). -/
def specialOperand (rule : DataRule) (data : Byte) : Option Byte :=
  match rule with
  | .zero => if data = 0 then some 0 else none
  | .data => some data
  | .addr6 => if data &&& 0x81 = 0x01 then some (data >>> 1) else none

/-- The data byte of a special frame for a data operand in range (40_frame_codec.md R130). -/
def specialData (rule : DataRule) (operand : Byte) : Byte :=
  match rule with
  | .zero => 0
  | .data => operand
  | .addr6 => ((operand &&& 0x3F) <<< 1) ||| 1

/-- A command frame's data byte read as a row of the table: a plain opcode, or a with-parameter
opcode in bits 7..4 with its parameter in bits 3..0 (30_encoding.md R84 to R87, R90). -/
def decodeCommand (mode : Mode) (address data : Byte) : Except DecodeError Instr :=
  match plainRows.lookup data with
  | some build => .ok (build mode address)
  | none =>
    match paramRows.lookup (data &&& 0xF0) with
    | some build => .ok (build mode address (data &&& 0x0F))
    | none => .error (.noTableCommand data)

/-- A special frame's row, by its header's data rule (30_encoding.md R88, R106). -/
def decodeSpecial (header data : Byte) : Except DecodeError Instr :=
  match specialRows.lookup header with
  | some (rule, build) =>
    match specialOperand rule data with
    | some operand => .ok (build operand)
    | none => .error (.badSpecialData header data)
  | none => .error (.unassignedHeader header)

/-- Decoding a frame back to its format, steps (1) to (4) of 30_encoding.md R90: the selector is
`frame[8]`, a special header comes before a command header, and the header ranges are those of R89.
Total: every frame has a format or is unassigned. -/
def decodeFormat (f : Frame) : FrameFormat :=
  if f.getLsbD 8 && (specialRows.lookup (frameHeader f)).isSome then .special (frameHeader f) (frameData f)
  else
    match headerAddress (frameHeader f) with
    | some (mode, address) =>
      if f.getLsbD 8 then .command mode address (frameData f) else .arc mode address (frameData f)
    | none => .unassigned (frameHeader f)

/-- The row of the opcode table that a frame of this format matches, if the table has one
(30_encoding.md R106; log 20). -/
def rowOfFormat : FrameFormat → Except DecodeError Instr
  | .arc .slave address brightness => .ok (.directArcS address brightness)
  | .arc .group address brightness => .ok (.directArcG address brightness)
  | .arc .broadcast _ brightness => .ok (.directArcB brightness)
  | .command mode address opcode => decodeCommand mode address opcode
  | .special header data => decodeSpecial header data
  | .unassigned header => .error (.unassignedHeader header)

/-- The decoder: total on every word of the table. -/
def decode : TableWord → Except DecodeError Instr
  | .request r => decodeRequest r
  | .frame f => rowOfFormat (decodeFormat f)

/-! What the block accepts. -/

/-- What the reader of the table presents for a word: a request record as it is, a frame by its row
(30_encoding.md R90: the block never decodes frames; log 3). -/
def present : TableWord → Presented
  | .request r => .request r
  | .frame f =>
    match decode (.frame f) with
    | .ok i => .row i
    | .error why => .unread why

/-- The instruction that is presented; the block decodes request records only
(30_encoding.md R100). -/
def Presented.instr : Presented → Except DecodeError Instr
  | .request r => decodeRequest r
  | .row i => .ok i
  | .unread why => .error why

/-! The encoder. -/

/-- A command frame of the given mode, address and data byte (30_encoding.md R84 to R87). -/
def commandFrame (mode : Mode) (address data : Byte) : TableWord :=
  .frame (mkFrame (headerByte mode address true) data)

/-- A direct arc frame (30_encoding.md R81 to R83). -/
def arcFrame (mode : Mode) (address brightness : Byte) : TableWord :=
  .frame (mkFrame (headerByte mode address false) brightness)

/-- A special frame (30_encoding.md R88). -/
def specialFrame (header : Byte) (rule : DataRule) (operand : Byte) : TableWord :=
  .frame (mkFrame header (specialData rule operand))

/-- The table word of a well-formed instruction: its request record with unread fields 0, or its frame
(30_encoding.md R100 and section 1). -/
def encode (i : Instr) : TableWord :=
  match i with
  | .setup baud txbits rxbits stop txpin rxpin => .request { op := 0x0, baud, txbits, rxbits, stop, txpin, rxpin }
  | .arc mode address brightness => .request { op := 0x1, mode := codeOfMode mode, address, brightness }
  | .send mode command address param => .request { op := 0x2, mode := codeOfMode mode, command, address, param }
  | .transmit value => .request { op := 0x3, value }
  | .receive => .request { op := 0x4 }
  | .classify command => .request { op := 0x5, command }
  | .tmode command => .request { op := 0x6, command }
  | .encArc mode address brightness => .request { op := 0x7, mode := codeOfMode mode, address, brightness }
  | .encCmd mode address command => .request { op := 0x8, mode := codeOfMode mode, address, command }
  | .encParam mode address command param => .request { op := 0x9, mode := codeOfMode mode, address, command, param }
  | .encSpecial command data => .request { op := 0xA, command, param := data }
  | .directArcS address brightness => arcFrame .slave address brightness
  | .directArcG address brightness => arcFrame .group address brightness
  | .directArcB brightness => arcFrame .broadcast 0 brightness
  | .off mode address => commandFrame mode address 0x00
  | .up mode address => commandFrame mode address 0x01
  | .down mode address => commandFrame mode address 0x02
  | .stepUp mode address => commandFrame mode address 0x03
  | .stepDown mode address => commandFrame mode address 0x04
  | .recallMaxLevel mode address => commandFrame mode address 0x05
  | .recallMinLevel mode address => commandFrame mode address 0x06
  | .stepDownAndOff mode address => commandFrame mode address 0x07
  | .onAndStepUp mode address => commandFrame mode address 0x08
  | .reset mode address => commandFrame mode address 0x20
  | .storeActualLevelInDtr mode address => commandFrame mode address 0x21
  | .storeDtrAsMaxLevel mode address => commandFrame mode address 0x2A
  | .storeDtrAsMinLevel mode address => commandFrame mode address 0x2B
  | .storeDtrAsSystemFailureLevel mode address => commandFrame mode address 0x2C
  | .storeDtrAsPowerOnLevel mode address => commandFrame mode address 0x2D
  | .storeDtrAsFadeTime mode address => commandFrame mode address 0x2E
  | .storeDtrAsFadeRate mode address => commandFrame mode address 0x2F
  | .queryStatus mode address => commandFrame mode address 0x90
  | .queryBallast mode address => commandFrame mode address 0x91
  | .queryLampFailure mode address => commandFrame mode address 0x92
  | .queryLampPowerOn mode address => commandFrame mode address 0x93
  | .queryLimitError mode address => commandFrame mode address 0x94
  | .queryResetState mode address => commandFrame mode address 0x95
  | .queryMissingShortAddress mode address => commandFrame mode address 0x96
  | .queryVersionNumber mode address => commandFrame mode address 0x97
  | .queryContentDtr mode address => commandFrame mode address 0x98
  | .queryDeviceType mode address => commandFrame mode address 0x99
  | .queryPhysicalMinimumLevel mode address => commandFrame mode address 0x9A
  | .queryPowerFailure mode address => commandFrame mode address 0x9B
  | .goToScene mode address param => commandFrame mode address (0x10 ||| param)
  | .storeDtrAsScene mode address param => commandFrame mode address (0x40 ||| param)
  | .removeFromScene mode address param => commandFrame mode address (0x50 ||| param)
  | .addToGroup mode address param => commandFrame mode address (0x60 ||| param)
  | .removeFromGroup mode address param => commandFrame mode address (0x70 ||| param)
  | .querySceneLevel mode address param => commandFrame mode address (0xB0 ||| param)
  | .terminate data => specialFrame 0xA1 .zero data
  | .dataTransferRegister data => specialFrame 0xA3 .data data
  | .initialise data => specialFrame 0xA5 .data data
  | .randomise data => specialFrame 0xA7 .zero data
  | .compare data => specialFrame 0xA9 .zero data
  | .withdraw data => specialFrame 0xAB .zero data
  | .searchaddrh data => specialFrame 0xB1 .data data
  | .searchaddrm data => specialFrame 0xB3 .data data
  | .searchaddrl data => specialFrame 0xB5 .data data
  | .programShortAddress data => specialFrame 0xB7 .addr6 data
  | .verifyShortAddress data => specialFrame 0xB9 .addr6 data
  | .queryShortAddress data => specialFrame 0xBB .zero data
  | .physicalSelection data => specialFrame 0xBD .zero data
  | .enableDeviceTypeX data => specialFrame 0xC1 .data data

/-! The numbering of the opcode table: bit 0 is the least significant bit of the first byte. -/

/-- Byte `k` of a number, least significant first. -/
def byteOf (w k : Nat) : Byte := BitVec.ofNat 8 (w / 2 ^ (8 * k))

/-- The request record as a row of bytes, the least significant byte of a wide field first: the op
in the low nibble of byte 0, the mode in the low bits of byte 1, then the other fields in the order
of 30_encoding.md R100. The spec gives the record no bit layout (log 4). -/
def requestOfNat (w : Nat) : Request where
  op := BitVec.ofNat 4 w
  mode := (byteOf w 1).setWidth 2
  address := byteOf w 2
  brightness := byteOf w 3
  command := byteOf w 4
  param := byteOf w 5
  value := byteOf w 7 ++ byteOf w 6
  baud := byteOf w 11 ++ byteOf w 10 ++ byteOf w 9 ++ byteOf w 8
  txbits := byteOf w 12
  rxbits := byteOf w 13
  stop := byteOf w 14
  txpin := byteOf w 15
  rxpin := byteOf w 16

/-- The numbered words of the opcode table: the frame rows have 16 bits, the request rows are
records whose op the table gives (30_encoding.md R106; log 4). -/
def tableWord (nbits w : Nat) : TableWord :=
  if nbits = 16 then .frame (BitVec.ofNat 16 w) else .request (requestOfNat w)

/-- The instruction the decoder reads from a word of the opcode table. -/
def decodeTableWord (nbits w : Nat) : Option Instr :=
  match decode (tableWord nbits w) with
  | .ok i => some i
  | .error _ => none

end Sys2Proof
end

