-- ==== Sys2Proof/Machine/Tables.lean ====
section
/-! DEFINITION. The default command tables (40_frame_codec.md section 3), the constants the source fixes (00_scope.md R6), and the parameters of the block at reset. -/

namespace Sys2Proof.Machine

/-- The 29 plain commands, 40_frame_codec.md R150 to R178 in order (decision D3; log 16). -/
def plainTable : List CmdEntry :=
  [⟨0x00, .simple, .simple⟩,
   ⟨0x01, .simple, .simple⟩,
   ⟨0x02, .simple, .simple⟩,
   ⟨0x03, .simple, .simple⟩,
   ⟨0x04, .simple, .simple⟩,
   ⟨0x05, .simple, .simple⟩,
   ⟨0x06, .simple, .simple⟩,
   ⟨0x07, .simple, .simple⟩,
   ⟨0x08, .simple, .simple⟩,
   ⟨0x20, .simple, .repeatTwice⟩] ++
  [⟨0x21, .simple, .repeatTwice⟩,
   ⟨0x2A, .simple, .repeatTwice⟩,
   ⟨0x2B, .simple, .repeatTwice⟩,
   ⟨0x2C, .simple, .repeatTwice⟩,
   ⟨0x2D, .simple, .repeatTwice⟩,
   ⟨0x2E, .simple, .repeatTwice⟩,
   ⟨0x2F, .simple, .repeatTwice⟩,
   ⟨0x90, .simple, .query⟩,
   ⟨0x91, .simple, .query⟩,
   ⟨0x92, .simple, .query⟩] ++
  [⟨0x93, .simple, .query⟩,
   ⟨0x94, .simple, .query⟩,
   ⟨0x95, .simple, .query⟩,
   ⟨0x96, .simple, .query⟩,
   ⟨0x97, .simple, .query⟩,
   ⟨0x98, .simple, .query⟩,
   ⟨0x99, .simple, .query⟩,
   ⟨0x9A, .simple, .query⟩,
   ⟨0x9B, .simple, .query⟩]

/-- The six with-parameter commands, 40_frame_codec.md R179 to R184 in order (decision D4; log 16). -/
def paramTable : List CmdEntry :=
  [⟨0x10, .param, .simple⟩,
   ⟨0x40, .param, .repeatTwice⟩,
   ⟨0x50, .param, .repeatTwice⟩,
   ⟨0x60, .param, .repeatTwice⟩,
   ⟨0x70, .param, .repeatTwice⟩,
   ⟨0xB0, .param, .query⟩]

/-- The 14 special commands, 40_frame_codec.md R185 to R198 in order (decision D8; log 16). -/
def specialCmdTable : List CmdEntry :=
  [⟨0xA1, .special, .simple⟩,
   ⟨0xA3, .special, .simple⟩,
   ⟨0xA5, .special, .repeatTwice⟩,
   ⟨0xA7, .special, .repeatTwice⟩,
   ⟨0xA9, .special, .query⟩,
   ⟨0xAB, .special, .simple⟩,
   ⟨0xB1, .special, .simple⟩,
   ⟨0xB3, .special, .simple⟩,
   ⟨0xB5, .special, .simple⟩,
   ⟨0xB7, .special, .simple⟩] ++
  [⟨0xB9, .special, .query⟩,
   ⟨0xBB, .special, .query⟩,
   ⟨0xBD, .special, .simple⟩,
   ⟨0xC1, .special, .simple⟩]

/-- Header and data rule of each special command, 40_frame_codec.md R185 to R198 (the header is the opcode, decision D8; log 16). -/
def specialTable : List SpecialEntry :=
  [⟨0xA1, 0xA1, .zero⟩,
   ⟨0xA3, 0xA3, .data⟩,
   ⟨0xA5, 0xA5, .data⟩,
   ⟨0xA7, 0xA7, .zero⟩,
   ⟨0xA9, 0xA9, .zero⟩,
   ⟨0xAB, 0xAB, .zero⟩,
   ⟨0xB1, 0xB1, .data⟩] ++
  [⟨0xB3, 0xB3, .data⟩,
   ⟨0xB5, 0xB5, .data⟩,
   ⟨0xB7, 0xB7, .addr6⟩,
   ⟨0xB9, 0xB9, .addr6⟩,
   ⟨0xBB, 0xBB, .zero⟩,
   ⟨0xBD, 0xBD, .zero⟩,
   ⟨0xC1, 0xC1, .data⟩]

/-- The default set of with-parameter opcodes (40_frame_codec.md R126, decision D4; log 16). -/
def paramCmds : List Byte := [0x10, 0x40, 0x50, 0x60, 0x70, 0xB0]

/-- The default tables (40_frame_codec.md section 3; log 16). -/
def defaultTables : Tables where
  cmdTable := plainTable ++ paramTable ++ specialCmdTable
  paramCmds := paramCmds
  specialTable := specialTable

/-! Values the source fixes (00_scope.md R6). -/

/-- `HB_NUMERATOR`, in microseconds; also the largest legal baud rate (10_state.md R23). -/
def hbNumerator : Nat := 500000

/-- `RETRY_PAUSE_HB` (41_line_encoder.md R230, decision D16). -/
def retryPauseHb : Nat := 5

/-- `SETTLE_HB` (41_line_encoder.md R233). -/
def settleHb : Nat := 6

/-- `REPEAT_GAP_US` (43_dispatcher.md R295). -/
def repeatGapUs : Nat := 9000

/-- `RX_TIMEOUT_SENTINEL` (42_line_receiver.md R270). -/
def rxTimeoutSentinel : BitVec 16 := 0xFFFF

/-- `PARAM_MAX`. -/
def paramMax : Nat := 15

/-- `BRIGHTNESS_MAX`. -/
def brightnessMax : Nat := 254

/-- `SLAVE_ADDR_MAX`. -/
def slaveAddrMax : Nat := 63

/-- `GROUP_ADDR_MAX`. -/
def groupAddrMax : Nat := 15

/-- The parameters at reset: the spec's defaults, and the uninterpreted constants for the OPEN
ones (00_scope.md R6; log 5). -/
def builtParams : Params where
  txVariant := .timerWait
  txInvert := false
  txPull := .noPull
  rxPull := .pullUp
  maxRetries := Config.maxRetries
  numPins := Config.numPins
  rxTimeoutUs := Config.rxTimeoutUs
  rxLead := Config.rxLead
  tables := defaultTables

end Sys2Proof.Machine
end

