-- ==== Sys2Proof/Machine/State.lean ====
section
/-! DEFINITION. The state of the block: every register of 10_state.md, the parameters of 00_scope.md R6, the request port, the response and the event trace; the reasons a step can stop; and the state at reset. -/

namespace Sys2Proof.Machine

/-- The response status codes (60_exceptions.md R330). -/
inductive Status where
  | ok
  | wrongAddress
  | wrongCommand
  | reservedCommand
  | receiveTimeout
  | transmissionFailed
  | notConfigured
  | badConfig
  deriving DecidableEq, Repr

/-- The response record (30_encoding.md R101). -/
structure Response where
  status : Status
  value : BitVec 16
  deriving DecidableEq, Repr

/-- The direction argument of `SetPinMode` (00_scope.md R10). -/
inductive Direction where
  | input
  | output
  deriving DecidableEq, Repr

/-- One environment event, a call of a primitive with its answer (00_scope.md R10). Levels of
`writePin` are those on the pin, after `TX_INVERT` (R11). -/
inductive Event where
  | setPinMode (pin : Byte) (dir : Direction) (pull : Pull)
  | writePin (pin : Byte) (level : Level)
  | readPin (pin : Byte) (level : Level)
  | now (t : Word32)
  | delayUs (n : Nat)
  | intDisableSave (token : Nat)
  | intRestore (token : Nat)
  deriving DecidableEq, Repr

/-- `TX_STATE` (10_state.md R33). -/
inductive TxState where
  | idle
  | start
  | data
  | stop
  | settle
  | retry
  deriving DecidableEq, Repr

/-- `RX_STATE` (10_state.md R35). -/
inductive RxState where
  | idle
  | edgeWait
  | sample
  | stopCheck
  deriving DecidableEq, Repr

/-- `DSP_STATE` (10_state.md R38). -/
inductive DspState where
  | idle
  | tx1
  | gap
  | tx2
  deriving DecidableEq, Repr

/-- The body of a request that runs inside `WithCS` (43_dispatcher.md R296): what is still to be
done once the interrupt state has been saved. -/
inductive Job where
  | transmit (value : BitVec 16)
  | arc (mode : Mode) (address brightness : Byte)
  | send (mode : Mode) (command address param : Byte)
  deriving DecidableEq, Repr

/-- The place in the pseudocode: which environment event the block makes next. The model's own
field (log 2). -/
inductive Ctl where
  /-- No request is active. -/
  | idle
  /-- SETUP: `SetPinMode(txpin, Output, TX_PULL)` (43_dispatcher.md R310). -/
  | setupTxMode
  /-- SETUP: the idle level is written to the tx pin (43_dispatcher.md R310). -/
  | setupIdleLevel
  /-- SETUP: `SetPinMode(rxpin, Input, RX_PULL)` (43_dispatcher.md R310). -/
  | setupRxMode
  /-- `IntDisableSave()`, then the body (43_dispatcher.md R296). -/
  | csEnter (job : Job)
  /-- `IntRestore(CS_TOKEN)`, then the response (43_dispatcher.md R296). After an error `prior` holds
  the value `CS_TOKEN` had before the request (60_exceptions.md R335; log 15). -/
  | csExit (response : Response) (prior : Option Nat)
  /-- Symbol `TX_SYM` is written to the tx pin (41_line_encoder.md R228). -/
  | txWrite
  /-- `DelayUs(TX_HB)` of the BusyDelay variant (41_line_encoder.md R234). -/
  | txHold
  /-- The start read of `WaitHalfBit` (41_line_encoder.md R226). -/
  | txStart
  /-- A poll of `WaitHalfBit` (41_line_encoder.md R226). -/
  | txPoll
  /-- `DelayUs(6 * TX_HB)` (41_line_encoder.md R233). -/
  | txSettle
  /-- `DelayUs(5 * TX_HB)` (41_line_encoder.md R230). -/
  | txPause
  /-- `DelayUs(9000)` (43_dispatcher.md R295). -/
  | repeatGap
  /-- RECEIVE reads `RX_TCALL` (42_line_receiver.md R261). -/
  | rxCall
  /-- The edge wait reads `RX_PREV` (42_line_receiver.md R261). -/
  | rxFirst
  /-- A poll of the edge wait reads the timer (42_line_receiver.md R261). -/
  | rxPoll
  /-- The same poll, whose timer value is `t`, reads the pin (42_line_receiver.md R263). -/
  | rxEdge (t : Time31)
  /-- The wait of the first sample of window `RX_K` (42_line_receiver.md R265). -/
  | rxWaitA
  /-- The pin read of the first sample. -/
  | rxReadA
  /-- The wait of the second sample; the first sample was `a`, none where it was a Wrap
  (42_line_receiver.md R261, R265). -/
  | rxWaitB (a : Option Level)
  /-- The pin read of the second sample; the first sample was `a`, none where it was a Wrap. -/
  | rxReadB (a : Option Level)
  deriving DecidableEq, Repr

/-- The environment's answers. An answer already fixed stands in its list, oldest first; where the
list is empty the answer is a free value of Config at the counter `drawn` (log 1). -/
structure Env where
  nows : List Word32
  pins : List Level
  tokens : List Nat
  drawn : Nat
  deriving DecidableEq, Repr

/-- The state of the block. -/
structure State where
  /-- The parameters of 00_scope.md R6, never written (log 5). -/
  params : Params
  cfgBaud : Word32
  cfgTxbits : Byte
  cfgRxbits : Byte
  cfgStop : Byte
  cfgTxpin : Byte
  cfgRxpin : Byte
  cfgValid : Bool
  reqBusy : Bool
  txState : TxState
  txValue : BitVec 16
  txSeq : List Level
  txNsym : BitVec 6
  txSym : BitVec 6
  txHb : Word32
  txWstart : Time31
  txRetries : Nat
  /-- `TX_LINE`, before `TX_INVERT`; none is Unknown (10_state.md R32). -/
  txLine : Option Level
  rxState : RxState
  rxTcall : Time31
  rxTedge : Time31
  rxPrev : Level
  rxK : BitVec 6
  rxShift : Word32
  dspState : DspState
  dspFrame : Frame
  dspTmode : TxMode
  csActive : Bool
  csToken : Nat
  ctl : Ctl
  /-- The answer to the last request, none while one is active (30_encoding.md R101; log 17). -/
  response : Option Response
  /-- The events made so far, newest first (60_exceptions.md R354; log 17). -/
  trace : List Event
  /-- The request being presented now (log 8). -/
  port : Option Presented
  /-- The requests presented later, each after the previous response (log 8). -/
  program : List Presented
  env : Env
  deriving DecidableEq, Repr

/-- Why the machine stops with a fault. Safe: no run of the block reaches either state (log 13). -/
inductive Fault where
  /-- Raised by a symbol write when `TX_SYM` is no index of `TX_SEQ`. No run reaches it. Safe. -/
  | noSuchSymbol
  /-- Raised by a step when `REQ_BUSY` is 1 and no event is due, or when a transmission ends with
  `DSP_STATE` = Gap. No run reaches it. Safe. -/
  | incoherent
  deriving DecidableEq, Repr

/-- Why the machine refuses. All safe: the run ends and nothing is claimed beyond it (log 7). -/
inductive Refusal where
  /-- Raised by an arm of exec whose instruction has no meaning yet. Safe. -/
  | notModelled (mnemonic : String)
  /-- Raised by every instruction presented while `REQ_BUSY` is 1 (60_exceptions.md R338). Safe. -/
  | requestWhileBusy
  /-- Raised by a step when what is presented is no instruction (60_exceptions.md R337; log 20). Safe. -/
  | notAnInstruction (why : DecodeError)
  deriving DecidableEq, Repr

/-- The state after reset, for given parameters (70_reset_and_hazards.md R370). Registers the spec
leaves unspecified are 0 (log 6). -/
def State.resetWith (params : Params) : State where
  params := params
  cfgBaud := 0
  cfgTxbits := 0
  cfgRxbits := 0
  cfgStop := 0
  cfgTxpin := 0
  cfgRxpin := 0
  cfgValid := false
  reqBusy := false
  txState := .idle
  txValue := 0
  txSeq := []
  txNsym := 0
  txSym := 0
  txHb := 0
  txWstart := 0
  txRetries := 0
  txLine := none
  rxState := .idle
  rxTcall := 0
  rxTedge := 0
  rxPrev := .low
  rxK := 0
  rxShift := 0
  dspState := .idle
  dspFrame := 0
  dspTmode := .simple
  csActive := false
  csToken := 0
  ctl := .idle
  response := none
  trace := []
  port := none
  program := []
  env := { nows := [], pins := [], tokens := [], drawn := 0 }

/-- The machine right after reset (70_reset_and_hazards.md R370). -/
def State.reset : State := State.resetWith builtParams

end Sys2Proof.Machine
end

