-- ==== Sys2Proof/Machine/Operands.lean ====
section
/-! DEFINITION. Operand assembly and operand checks of the codec, the codes of the response, the legal ranges of SETUP, the half-bit period and the symbol sequence of a frame. -/

namespace Sys2Proof.Machine

/-! Codes (60_exceptions.md R330, 30_encoding.md R103). -/

/-- The code of a status (60_exceptions.md R330). -/
def statusCode : Status → BitVec 4
  | .ok => 0
  | .wrongAddress => 1
  | .wrongCommand => 2
  | .reservedCommand => 3
  | .receiveTimeout => 4
  | .transmissionFailed => 5
  | .notConfigured => 6
  | .badConfig => 7

/-- The code CLASSIFY returns (30_encoding.md R103). -/
def classCode : CmdClass → BitVec 16
  | .simple => 0
  | .param => 1
  | .special => 2

/-- The code TMODE returns (30_encoding.md R103). -/
def tmodeCode : TxMode → BitVec 16
  | .simple => 0
  | .repeatTwice => 1
  | .query => 2

/-! Codec operands (30_encoding.md section 2). -/

/-- `AddrOK(mode, a)` (30_encoding.md R92). -/
def addrOk (mode : Mode) (address : Byte) : Bool :=
  match mode with
  | .slave => address.toNat ≤ slaveAddrMax
  | .group => address.toNat ≤ groupAddrMax
  | .broadcast => true

/-- `min(brightness, 254)` (30_encoding.md R93). -/
def clampBrightness (brightness : Byte) : Byte :=
  if brightness.toNat ≤ brightnessMax then brightness else BitVec.ofNat 8 brightnessMax

/-- `IsReserved(c)`: the five patterns as match and mask pairs (30_encoding.md R96). -/
def isReserved (c : Byte) : Bool :=
  c &&& 0xF0 == 0x30 || c &&& 0xF0 == 0x80 || c &&& 0xFC == 0x9C || c &&& 0xF0 == 0xA0 || c &&& 0xE0 == 0xC0

/-- `IsParamCmd(c)` compares the whole byte (40_frame_codec.md R126). -/
def isParamCmd (t : Tables) (c : Byte) : Bool := t.paramCmds.contains c

/-- `CMD_TABLE(c)`, none for Invalid (10_state.md R40). -/
def cmdLookup (t : Tables) (c : Byte) : Option CmdEntry := t.cmdTable.find? fun e => e.opcode == c

/-- `SPECIAL_TABLE(c)`, none where undefined (10_state.md R41). -/
def specialLookup (t : Tables) (c : Byte) : Option SpecialEntry := t.specialTable.find? fun e => e.opcode == c

/-- The constraints every replacement of the tables meets (40_frame_codec.md R121). -/
def tablesLegal (t : Tables) : Bool :=
  decide (t.cmdTable.map (·.opcode)).Nodup &&
  t.paramCmds.length == 6 && decide t.paramCmds.Nodup &&
  t.cmdTable.all (fun e => (e.cls == .param) == t.paramCmds.contains e.opcode) &&
  t.paramCmds.all (fun c => (cmdLookup t c).isSome && c &&& 0x0F == 0) &&
  t.specialTable.length == 14 && decide (t.specialTable.map (·.opcode)).Nodup &&
  t.cmdTable.all (fun e => (e.cls == .special) == (specialLookup t e.opcode).isSome) &&
  t.specialTable.all (fun e => (cmdLookup t e.opcode).isSome) &&
  t.cmdTable.all (fun e => !(e.cls == .simple && isReserved e.opcode))

/-! SETUP operands (10_state.md R23 to R28). -/

/-- Every operand of SETUP is in its legal range (43_dispatcher.md R310). -/
def setupLegal (numPins : Nat) (baud : Word32) (txbits rxbits stop txpin rxpin : Byte) : Bool :=
  decide (1 ≤ baud.toNat) && decide (baud.toNat ≤ hbNumerator) &&
  decide (1 ≤ txbits.toNat) && decide (txbits.toNat ≤ 16) &&
  decide (1 ≤ rxbits.toNat) && decide (rxbits.toNat ≤ 16) &&
  (stop == 1 || stop == 2) &&
  decide (txpin.toNat < numPins) && decide (rxpin.toNat < numPins)

/-! The line (41_line_encoder.md). -/

/-- The half-bit period `floor(500000 / baud)` in microseconds (41_line_encoder.md R220). A baud of
0, which SETUP never admits, gives a free value (log 12). -/
def halfBit (baud : Word32) : Word32 :=
  if baud = 0 then Config.freeHalfBit else BitVec.ofNat 32 (hbNumerator / baud.toNat)

/-- The two symbols of a data bit (41_line_encoder.md R223). -/
def bitSymbols (b : Bool) : List Level := if b then [.high, .low] else [.low, .high]

/-- The data symbols of `value[n-1:0]`, most significant bit first (41_line_encoder.md R222). -/
def dataSymbols (value : BitVec 16) : Nat → List Level
  | 0 => []
  | n + 1 => bitSymbols (value.getLsbD n) ++ dataSymbols value n

/-- The start symbols: a data bit of value 1 (41_line_encoder.md R224). -/
def startSymbols : List Level := [.high, .low]

/-- The stop symbols: the idle level for `stop` bit periods (41_line_encoder.md R225). -/
def stopSymbols (stop : Nat) : List Level := List.replicate (2 * stop) .high

/-- `SymSeq(v, N, S)` (41_line_encoder.md R222). -/
def symSeq (value : BitVec 16) (txbits stop : Nat) : List Level :=
  startSymbols ++ dataSymbols value txbits ++ stopSymbols stop

/-- The number of symbols of one frame, `2 + 2N + 2S` (30_encoding.md R107). -/
def symCount (txbits stop : Nat) : Nat := 2 + 2 * txbits + 2 * stop

/-- The phase of a symbol: `TX_STATE` as a function of `TX_SYM` (10_state.md R33). -/
def txPhase (txbits sym : Nat) : TxState :=
  if sym < 2 then .start else if sym < 2 + 2 * txbits then .data else .stop

/-- The number of half-bit windows of one reception, `2R + 2S` (42_line_receiver.md R264). -/
def windowCount (rxbits stop : Nat) : Nat := 2 * rxbits + 2 * stop

/-- The phase of a window: `RX_STATE` as a function of `RX_K` (42_line_receiver.md R261). -/
def rxPhase (rxbits k : Nat) : RxState := if k < 2 * rxbits then .sample else .stopCheck

/-- When a sample of window `k` is due: `offset` quarters into the window that begins at
`RX_TEDGE + (RX_LEAD + k) * hb`, formed in 32 bits (42_line_receiver.md R264, R265; log 18). -/
def sampleTime (tedge : Time31) (lead k hb quarters : Nat) : Word32 :=
  tedge.setWidth 32 + BitVec.ofNat 32 ((lead + k) * hb + quarters * hb / 4)

/-- One symbol shifted into `RX_SHIFT` at bit 0 (42_line_receiver.md R267). -/
def shiftSymbol (shift : Word32) (l : Level) : Word32 := (shift <<< 1) ||| (if l = .high then 1 else 0)

/-- `RX_SHIFT[2R-1:0]` (42_line_receiver.md R271). -/
def usedSymbols (shift : Word32) (rxbits : Nat) : Word32 :=
  BitVec.ofNat 32 (shift.toNat % 2 ^ (2 * rxbits))

end Sys2Proof.Machine
end

