-- ==== Sys2Proof/Machine/Ops.lean ====
section
/-! DEFINITION. The named operations over the state: events and draws of the environment, responses, the error exit every `raise` takes, and the critical section. -/

namespace Sys2Proof.Machine

/-! Events (00_scope.md R10). -/

/-- Record an event. -/
def emit (e : Event) (s : State) : State := { s with trace := e :: s.trace }

/-- The next answer of `Now()` and the environment after it (60_exceptions.md R348; log 1). -/
def drawNow (env : Env) : Word32 × Env :=
  match env.nows with
  | t :: rest => (t, { env with nows := rest, drawn := env.drawn + 1 })
  | [] => (Config.freeNow env.drawn, { env with drawn := env.drawn + 1 })

/-- The next answer of `ReadPin` and the environment after it (60_exceptions.md R351; log 1). -/
def drawPin (env : Env) : Level × Env :=
  match env.pins with
  | l :: rest => (l, { env with pins := rest, drawn := env.drawn + 1 })
  | [] => (if Config.freePin env.drawn then .high else .low, { env with drawn := env.drawn + 1 })

/-- The next answer of `IntDisableSave()` and the environment after it (93 I15; log 1). -/
def drawToken (env : Env) : Nat × Env :=
  match env.tokens with
  | t :: rest => (t, { env with tokens := rest, drawn := env.drawn + 1 })
  | [] => (Config.freeToken env.drawn, { env with drawn := env.drawn + 1 })

/-- `Now31()` is the raw value masked to 31 bits (00_scope.md R10). -/
def mask31 (raw : Word32) : Time31 := raw.setWidth 31

/-- `Now31()`: one `Now` event and the masked value. -/
def readNow (s : State) : Time31 × State :=
  (mask31 (drawNow s.env).1, emit (.now (drawNow s.env).1) { s with env := (drawNow s.env).2 })

/-- `ReadPin(CFG_RXPIN)`: the only pin the block reads (60_exceptions.md R351). -/
def readRxPin (s : State) : Level × State :=
  ((drawPin s.env).1, emit (.readPin s.cfgRxpin (drawPin s.env).1) { s with env := (drawPin s.env).2 })

/-- `DelayUs(n)` (60_exceptions.md R349). -/
def delayUs (n : Nat) (s : State) : State := emit (.delayUs n) s

/-- The other level. -/
def opposite : Level → Level
  | .low => .high
  | .high => .low

/-- The level on the pin for a stated level (00_scope.md R11). -/
def pinLevel (invert : Bool) (l : Level) : Level := if invert then opposite l else l

/-- "Level l is written to the tx pin" (00_scope.md R11). -/
def writeTx (l : Level) (s : State) : State :=
  emit (.writePin s.cfgTxpin (pinLevel s.params.txInvert l)) { s with txLine := some l }

/-! Responses (30_encoding.md R101). -/

/-- The response with status OK. -/
def okResponse (value : BitVec 16) : Response := { status := .ok, value := value }

/-- The response of an error; its value is 0 (30_encoding.md R101). -/
def errResponse (status : Status) : Response := { status := status, value := 0 }

/-- RECEIVE's timeout response (42_line_receiver.md R270). -/
def timeoutResponse : Response := { status := .receiveTimeout, value := rxTimeoutSentinel }

/-- The request ends with its response, `REQ_BUSY` goes to 0 (10_state.md R31). -/
def respond (r : Response) (s : State) : State :=
  { s with reqBusy := false, ctl := .idle, response := some r }

/-- The exit of a request: where the block holds interrupts disabled, `IntRestore` comes first, on
every exit path (43_dispatcher.md R296). -/
def finish (r : Response) (s : State) : State :=
  if s.csActive then { s with ctl := .csExit r none } else respond r s

/-- `raise E` of a request: the one error exit. Nothing is saved and control goes nowhere else; the
receiver and the Dispatcher go to Idle and the request ends with the status and value 0 (60_exceptions.md R335, R339;
30_encoding.md R101). -/
def raise (status : Status) (s : State) : State :=
  finish (errResponse status) { s with rxState := .idle, dspState := .idle }

/-! The critical section (43_dispatcher.md R296). -/

/-- `CS_TOKEN <- IntDisableSave(); CS_ACTIVE <- 1`. -/
def intDisableSave (s : State) : State :=
  emit (.intDisableSave (drawToken s.env).1)
    { s with csToken := (drawToken s.env).1, csActive := true, env := (drawToken s.env).2 }

/-- `IntRestore(CS_TOKEN); CS_ACTIVE <- 0`, the return that undoes `intDisableSave`
(60_exceptions.md R340). -/
def intRestore (s : State) : State :=
  emit (.intRestore s.csToken) { s with csActive := false }

/-- A body that has ended inside the critical section before any pin write has failed, and its error
leaves `CS_TOKEN` as it was before the request: the exit will put `prior` back (60_exceptions.md R335;
log 15). -/
def undoTokenAtExit (prior : Nat) (s : State) : State :=
  match s.ctl with
  | .csExit r _ => { s with ctl := .csExit r (some prior) }
  | _ => s

/-- The event a request ends with under BusyDelay: interrupts are restored, after an error `CS_TOKEN`
goes back to `prior`, and the response is given. -/
def exitCs (r : Response) (prior : Option Nat) (s : State) : State :=
  respond r { intRestore s with csToken := prior.getD s.csToken }

/-! The request port (log 8). -/

/-- What is presented to the block now, and the state once it has been taken: the port first; when
idle with an empty port, the next request of the program. -/
def fetch (s : State) : Option (Presented × State) :=
  match s.port with
  | some p => some (p, { s with port := none })
  | none =>
    if s.reqBusy then none
    else
      match s.program with
      | p :: rest => some (p, { s with program := rest })
      | [] => none

/-- Acceptance of a request (10_state.md R31). -/
def accept (s : State) : State := { s with reqBusy := true, response := none }

end Sys2Proof.Machine
end

