-- ==== Sys2Proof/Machine/Codec.lean ====
section
/-! DEFINITION. The Frame Codec (40_frame_codec.md): its six pure operations, each a value or an error status. -/

namespace Sys2Proof.Machine

/-- CLASSIFY's lookup (40_frame_codec.md R122). -/
def classifyCmd (t : Tables) (command : Byte) : Except Status CmdClass :=
  match cmdLookup t command with
  | none => .error .wrongCommand
  | some e => .ok e.cls

/-- TMODE's lookup (40_frame_codec.md R123). -/
def tmodeCmd (t : Tables) (command : Byte) : Except Status TxMode :=
  match cmdLookup t command with
  | none => .error .wrongCommand
  | some e => .ok e.tmode

/-- ENC_ARC (40_frame_codec.md R125). -/
def encodeArc (mode : Mode) (address brightness : Byte) : Except Status Frame :=
  if addrOk mode address then .ok (mkFrame (headerByte mode address false) (clampBrightness brightness))
  else .error .wrongAddress

/-- The address check and the command header, shared by ENC_CMD and ENC_PARAM
(40_frame_codec.md R127, R129; 30_encoding.md R87). -/
def encodeAddressed (mode : Mode) (address data : Byte) : Except Status Frame :=
  if addrOk mode address then .ok (mkFrame (headerByte mode address true) data)
  else .error .wrongAddress

/-- ENC_CMD: reserved, then with-parameter opcode, then address (40_frame_codec.md R127). -/
def encodeCommand (t : Tables) (mode : Mode) (address command : Byte) : Except Status Frame :=
  if isReserved command then .error .reservedCommand
  else if isParamCmd t command then .error .wrongCommand
  else encodeAddressed mode address command

/-- ENC_PARAM: opcode, then parameter, then address (40_frame_codec.md R129). -/
def encodeParam (t : Tables) (mode : Mode) (address command param : Byte) : Except Status Frame :=
  if !isParamCmd t command then .error .wrongCommand
  else if paramMax < param.toNat then .error .wrongCommand
  else encodeAddressed mode address (command ||| param)

/-- The data byte of a special command (40_frame_codec.md R130). -/
def encodeData (rule : DataRule) (data : Byte) : Except Status Byte :=
  if rule = .addr6 ∧ slaveAddrMax < data.toNat then .error .wrongAddress
  else .ok (specialData rule data)

/-- ENC_SPECIAL (40_frame_codec.md R130). -/
def encodeSpecial (t : Tables) (command data : Byte) : Except Status Frame :=
  match specialLookup t command with
  | none => .error .wrongCommand
  | some e =>
    match encodeData e.rule data with
    | .error st => .error st
    | .ok d => .ok (mkFrame e.header d)

/-- The response of a codec operation: OK with the value, or the status with 0
(40_frame_codec.md R120, 20_memory.md R77). -/
def codecResponse (r : Except Status (BitVec 16)) : Response :=
  match r with
  | .ok v => okResponse v
  | .error st => errResponse st

/-- A codec request: it reads only its operands and the tables, writes no register and makes no
event (20_memory.md R76). -/
def answer (r : Except Status (BitVec 16)) (s : State) : State := respond (codecResponse r) s

/-- The encoder the Dispatcher selects for a table command (43_dispatcher.md R293). -/
def encodeEntry (t : Tables) (e : CmdEntry) (mode : Mode) (command address param : Byte) :
    Except Status Frame :=
  match e.cls with
  | .simple => encodeCommand t mode address command
  | .param => encodeParam t mode address command param
  | .special => encodeSpecial t command param

/-- Classification and encoding of a SEND: the entry and the frame, or the first error
(43_dispatcher.md R291, R292). -/
def encodeSend (t : Tables) (mode : Mode) (command address param : Byte) :
    Except Status (TxMode × Frame) :=
  match cmdLookup t command with
  | none => .error .wrongCommand
  | some e =>
    match encodeEntry t e mode command address param with
    | .error st => .error st
    | .ok f => .ok (e.tmode, f)

end Sys2Proof.Machine
end

