-- ==== Sys2Proof/Machine/Flags.lean ====
section
/-! DEFINITION. The block has no condition flags (10_state.md R22); this file holds the internal conditions that take their place: the result of one poll of a timer wait, of a sample wait, and the receive timeout. -/

namespace Sys2Proof.Machine

/-- The result of one poll of the timer, never visible at the interface (10_state.md R22). -/
inductive Poll where
  | wrapped
  | elapsed
  | waiting
  deriving DecidableEq, Repr

/-- One poll of `WaitHalfBit`: the wrap test comes before the elapsed test, and the sum is formed in
32 bits (41_line_encoder.md R226, 10_state.md R43). -/
def waitPoll (wstart : Time31) (hb : Word32) (t : Time31) : Poll :=
  if t.toNat < wstart.toNat then .wrapped
  else if (wstart.setWidth 32 + hb).toNat ≤ t.toNat then .elapsed
  else .waiting

/-- One poll of `SampleAt(T)`: a value below `RX_TEDGE` is a wrap (42_line_receiver.md R265). -/
def samplePoll (tedge : Time31) (due : Word32) (t : Time31) : Poll :=
  if t.toNat < tedge.toNat then .wrapped
  else if due.toNat ≤ t.toNat then .elapsed
  else .waiting

/-- The receiver gives up in the edge wait: a wrap, or `RX_TIMEOUT_US` since the call
(42_line_receiver.md R269). -/
def rxTimedOut (tcall t : Time31) (timeoutUs : Nat) : Bool :=
  decide (t.toNat < tcall.toNat) || decide (timeoutUs ≤ t.toNat - tcall.toNat)

/-- A falling edge between two polls (42_line_receiver.md R263). -/
def fallingEdge (prev cur : Level) : Bool := prev == .high && cur == .low

end Sys2Proof.Machine
end

