-- ==== Sys2Proof/Machine/Transmitter.lean ====
section
/-! DEFINITION. The Line Encoder (41_line_encoder.md): the procedure Transmit as silent transitions between the environment events it makes. -/

namespace Sys2Proof.Machine

/-- The start of an attempt: period, sequence and count are computed, and symbol 0 is due
(41_line_encoder.md R228, R220, R222). -/
def startAttempt (s : State) : State :=
  { s with
    txHb := halfBit s.cfgBaud
    txSeq := symSeq s.txValue s.cfgTxbits.toNat s.cfgStop.toNat
    txNsym := BitVec.ofNat 6 (symCount s.cfgTxbits.toNat s.cfgStop.toNat)
    txSym := 0
    txState := txPhase s.cfgTxbits.toNat 0
    ctl := .txWrite }

/-- `Transmit(v)` is entered (41_line_encoder.md R228). -/
def transmit (value : BitVec 16) (s : State) : State :=
  startAttempt { s with txValue := value, txRetries := 0 }

/-- How the symbol just written is held: `DelayUs` in the BusyDelay variant, else `WaitHalfBit`
(41_line_encoder.md R228, R234). -/
def holdOf (v : TxVariant) : Ctl :=
  match v with
  | .busyDelay => .txHold
  | .timerWait => .txStart

/-- Event: symbol `TX_SYM` is written to the tx pin (41_line_encoder.md R229). -/
def txWriteEvent (s : State) : Host.Outcome State Fault Refusal :=
  match s.txSeq[s.txSym.toNat]? with
  | some l => .next { writeTx l s with ctl := holdOf s.params.txVariant }
  | none => .fault .noSuchSymbol

/-- The wait succeeded: the next symbol is due, or after the last one the settle
(41_line_encoder.md R229, R233, R235). -/
def symbolDone (s : State) : State :=
  if s.txSym.toNat + 1 < s.txNsym.toNat then
    { s with txSym := s.txSym + 1, txState := txPhase s.cfgTxbits.toNat (s.txSym.toNat + 1), ctl := .txWrite }
  else { s with txState := .settle, ctl := .txSettle }

/-- The retry bound is reached (41_line_encoder.md R231). -/
def retriesSpent (s : State) : Bool := s.params.maxRetries == some s.txRetries

/-- The wait failed: TransmissionFailed at the bound, else the pause before a new attempt. The pin
keeps its level (41_line_encoder.md R228, R230, R231). -/
def attemptFailed (s : State) : State :=
  if retriesSpent s then raise .transmissionFailed { s with txState := .idle }
  else { s with txRetries := s.txRetries + 1, txState := .retry, ctl := .txPause }

/-- Event: `DelayUs(TX_HB)`, which cannot fail (41_line_encoder.md R234). -/
def txHoldEvent (s : State) : State := symbolDone (delayUs s.txHb.toNat s)

/-- Event: the start read of `WaitHalfBit` (41_line_encoder.md R226). -/
def txStartEvent (s : State) : State :=
  { (readNow s).2 with txWstart := (readNow s).1, ctl := .txPoll }

/-- Event: one poll of `WaitHalfBit` (41_line_encoder.md R226, R227). -/
def txPollEvent (s : State) : State :=
  match waitPoll s.txWstart s.txHb (readNow s).1 with
  | .wrapped => attemptFailed (readNow s).2
  | .elapsed => symbolDone (readNow s).2
  | .waiting => (readNow s).2

/-- Event: the pause after a wrap, then a new attempt from the first start symbol
(41_line_encoder.md R230, R232). -/
def txPauseEvent (s : State) : State := startAttempt (delayUs (retryPauseHb * s.txHb.toNat) s)

/-- Event: the settle; the transmitter goes to Idle and `Transmit` returns
(41_line_encoder.md R233). -/
def settle (s : State) : State := { delayUs (settleHb * s.txHb.toNat) s with txState := .idle }

end Sys2Proof.Machine
end

