-- ==== Sys2Proof/Machine/Dispatcher.lean ====
section
/-! DEFINITION. The Dispatcher (43_dispatcher.md): the bodies of TRANSMIT, ARC and SEND, the transmit-mode policy, the interrupt guard WithCS, and SETUP. -/

namespace Sys2Proof.Machine

/-- An encoded frame is sent: `DSP_STATE <- Tx1; Transmit(f)` (43_dispatcher.md R291, R298). -/
def dispatch (tmode : TxMode) (f : Frame) (s : State) : State :=
  transmit f { s with dspFrame := f, dspTmode := tmode, dspState := .tx1 }

/-- The body of SEND (43_dispatcher.md R291). -/
def sendBody (mode : Mode) (command address param : Byte) (s : State) : State :=
  match encodeSend s.params.tables mode command address param with
  | .error st => raise st s
  | .ok (tmode, f) => dispatch tmode f s

/-- The body of ARC (43_dispatcher.md R298). -/
def arcBody (mode : Mode) (address brightness : Byte) (s : State) : State :=
  match encodeArc mode address brightness with
  | .error st => raise st s
  | .ok f => dispatch .simple f s

/-- The body of a transmitting request: NotConfigured comes first (60_exceptions.md R334, R336;
41_line_encoder.md R221). -/
def runJob (job : Job) (s : State) : State :=
  if s.cfgValid then
    match job with
    | .transmit value => transmit value s
    | .arc mode address brightness => arcBody mode address brightness s
    | .send mode command address param => sendBody mode command address param s
  else raise .notConfigured s

/-- `WithCS body` (43_dispatcher.md R296): in the BusyDelay variant `IntDisableSave` is the first
event of the request; in TimerWait the body just runs. -/
def withCs (job : Job) (s : State) : State :=
  match s.params.txVariant with
  | .busyDelay => { s with ctl := .csEnter job }
  | .timerWait => runJob job s

/-- Event: interrupts are disabled, then the body runs up to its next event (43_dispatcher.md R296).
A body that ends there has failed before any pin write (60_exceptions.md R335). -/
def csEnterEvent (job : Job) (s : State) : State :=
  undoTokenAtExit s.csToken (runJob job (intDisableSave s))

/-- `Transmit` has returned to its caller: the TRANSMIT request (Dispatcher idle), the first send or
the second send (43_dispatcher.md R291, R299; 41_line_encoder.md R221). -/
def transmitReturned (s : State) : Host.Outcome State Fault Refusal :=
  match s.dspState with
  | .idle => .next (finish (okResponse 0) s)
  | .tx1 =>
    if s.dspTmode = .repeatTwice then .next { s with dspState := .gap, ctl := .repeatGap }
    else .next (finish (okResponse 0) { s with dspState := .idle })
  | .tx2 => .next (finish (okResponse 0) { s with dspState := .idle })
  | .gap => .fault .incoherent

/-- Event: the settle, then the return to the caller (41_line_encoder.md R233). -/
def txSettleEvent (s : State) : Host.Outcome State Fault Refusal := transmitReturned (settle s)

/-- Event: the repeat gap, then the second send of the same frame (43_dispatcher.md R295). -/
def repeatGapEvent (s : State) : State :=
  transmit s.dspFrame { delayUs repeatGapUs s with dspState := .tx2 }

/-! SETUP (43_dispatcher.md R310, R311). -/

/-- The checks and the register writes of SETUP; the pin events follow (43_dispatcher.md R310;
log 19). -/
def setupBody (baud : Word32) (txbits rxbits stop txpin rxpin : Byte) (s : State) : State :=
  if setupLegal s.params.numPins baud txbits rxbits stop txpin rxpin then
    { s with
      cfgBaud := baud, cfgTxbits := txbits, cfgRxbits := rxbits, cfgStop := stop
      cfgTxpin := txpin, cfgRxpin := rxpin, cfgValid := true, ctl := .setupTxMode }
  else respond (errResponse .badConfig) s

/-- Event: `SetPinMode(txpin, Output, TX_PULL)`. -/
def setupTxModeEvent (s : State) : State :=
  { emit (.setPinMode s.cfgTxpin .output s.params.txPull) s with ctl := .setupIdleLevel }

/-- Event: the idle level High is written to the tx pin. -/
def setupIdleLevelEvent (s : State) : State := { writeTx .high s with ctl := .setupRxMode }

/-- Event: `SetPinMode(rxpin, Input, RX_PULL)`, and SETUP returns OK. -/
def setupRxModeEvent (s : State) : State :=
  respond (okResponse 0) (emit (.setPinMode s.cfgRxpin .input s.params.rxPull) s)

end Sys2Proof.Machine
end

