-- ==== Sys2Proof/Machine/Receiver.lean ====
section
/-! DEFINITION. The Line Receiver (42_line_receiver.md): RECEIVE as silent transitions between the environment events it makes. -/

namespace Sys2Proof.Machine

/-- The body of RECEIVE: NotConfigured, or the call time is read. RECEIVE never touches the
interrupt state (42_line_receiver.md R261, 60_exceptions.md R345). -/
def receiveBody (s : State) : State :=
  if s.cfgValid then { s with ctl := .rxCall } else respond (errResponse .notConfigured) s

/-- The edge wait begins: `RX_PREV` is read next (42_line_receiver.md R261, R263). -/
def edgeWait (s : State) : State := { s with rxState := .edgeWait, ctl := .rxFirst }

/-- ReceiveTimeout with value 0xFFFF (42_line_receiver.md R269, R270). -/
def receiveTimeout (s : State) : State := respond timeoutResponse { s with rxState := .idle }

/-- Window `k` begins (42_line_receiver.md R261, R264). -/
def enterWindow (k : BitVec 6) (s : State) : State :=
  { s with rxK := k, rxState := rxPhase s.cfgRxbits.toNat k.toNat, ctl := .rxWaitA }

/-- The frame is complete: OK with the uninterpreted `RX_DECODE` (42_line_receiver.md R271;
log 11). -/
def receiveDone (s : State) : State :=
  respond (okResponse (Config.rxDecode (usedSymbols s.rxShift s.cfgRxbits.toNat) s.cfgRxbits.toNat))
    { s with rxState := .idle }

/-- The window is accepted: the next one, or the end (42_line_receiver.md R272). -/
def nextWindow (s : State) : State :=
  if s.rxK.toNat + 1 < windowCount s.cfgRxbits.toNat s.cfgStop.toNat then enterWindow (s.rxK + 1) s
  else receiveDone s

/-- Both samples of window `RX_K` are known: the glitch filter, the shift register and the stop
check (42_line_receiver.md R266 to R268). -/
def windowDone (a b : Level) (s : State) : State :=
  if a ≠ b then edgeWait s
  else if s.rxK.toNat < 2 * s.cfgRxbits.toNat then nextWindow { s with rxShift := shiftSymbol s.rxShift a }
  else if a = .high then nextWindow s
  else edgeWait s

/-- When the first (`quarters` = 1) or second (3) sample of window `RX_K` is due
(42_line_receiver.md R265). -/
def sampleDue (quarters : Nat) (s : State) : Word32 :=
  sampleTime s.rxTedge s.params.rxLead s.rxK.toNat (halfBit s.cfgBaud).toNat quarters

/-- Event: `RX_TCALL <- Now31()`, then the edge wait. -/
def rxCallEvent (s : State) : State := edgeWait { (readNow s).2 with rxTcall := (readNow s).1 }

/-- Event: `RX_PREV <- ReadPin(CFG_RXPIN)`. -/
def rxFirstEvent (s : State) : State :=
  { (readRxPin s).2 with rxPrev := (readRxPin s).1, ctl := .rxPoll }

/-- Event: the timer read of an edge-wait poll; the timeout test comes before the pin read. -/
def rxPollEvent (s : State) : State :=
  if rxTimedOut s.rxTcall (readNow s).1 s.params.rxTimeoutUs then receiveTimeout (readNow s).2
  else { (readNow s).2 with ctl := .rxEdge (readNow s).1 }

/-- Event: the pin read of an edge-wait poll whose timer value is `t`; on a falling edge the
windows begin (42_line_receiver.md R263). -/
def rxEdgeEvent (t : Time31) (s : State) : State :=
  if fallingEdge s.rxPrev (readRxPin s).1 then
    enterWindow 0 { (readRxPin s).2 with rxTedge := t, rxShift := 0 }
  else { (readRxPin s).2 with rxPrev := (readRxPin s).1, ctl := .rxPoll }

/-- Event: one timer read of `SampleAt` (42_line_receiver.md R265): a Wrap goes on as `wrapped` says,
and when the sample is due the pin is read next, `ready` says for which sample. -/
def rxWaitEvent (quarters : Nat) (wrapped : State → State) (ready : Ctl) (s : State) : State :=
  match samplePoll s.rxTedge (sampleDue quarters s) (readNow s).1 with
  | .wrapped => wrapped (readNow s).2
  | .elapsed => { (readNow s).2 with ctl := ready }
  | .waiting => (readNow s).2

/-- Event: a timer read for the first sample. The second sample is taken after a Wrap too, and both
are tested then (42_line_receiver.md R261; log 14). -/
def rxWaitAEvent (s : State) : State :=
  rxWaitEvent 1 (fun u => { u with ctl := .rxWaitB none }) .rxReadA s

/-- Event: a timer read for the second sample. Its Wrap ends the request (42_line_receiver.md R269). -/
def rxWaitBEvent (a : Option Level) (s : State) : State := rxWaitEvent 3 receiveTimeout (.rxReadB a) s

/-- Event: the pin read of the first sample. -/
def rxReadAEvent (s : State) : State := { (readRxPin s).2 with ctl := .rxWaitB (some (readRxPin s).1) }

/-- Event: the pin read of the second sample. A Wrap of the first one ends the request, else the
window is judged (42_line_receiver.md R261). -/
def rxReadBEvent (a : Option Level) (s : State) : State :=
  match a with
  | none => receiveTimeout (readRxPin s).2
  | some l => windowDone l (readRxPin s).1 (readRxPin s).2

end Sys2Proof.Machine
end

