-- ==== Sys2Proof/Machine/Engine.lean ====
section
/-! DEFINITION. The engine: one environment event of the active request, and the start of a request up to and including its first event (log 2). -/

namespace Sys2Proof.Machine

/-- The next event of the active request and the silent work up to the event after it: one
environment event is one step of the model (00_scope.md R10). -/
def event (s : State) : Host.Outcome State Fault Refusal :=
  match s.ctl with
  | .idle => .fault .incoherent
  | .setupTxMode => .next (setupTxModeEvent s)
  | .setupIdleLevel => .next (setupIdleLevelEvent s)
  | .setupRxMode => .next (setupRxModeEvent s)
  | .csEnter job => .next (csEnterEvent job s)
  | .csExit r prior => .next (exitCs r prior s)
  | .txWrite => txWriteEvent s
  | .txHold => .next (txHoldEvent s)
  | .txStart => .next (txStartEvent s)
  | .txPoll => .next (txPollEvent s)
  | .txSettle => txSettleEvent s
  | .txPause => .next (txPauseEvent s)
  | .repeatGap => .next (repeatGapEvent s)
  | .rxCall => .next (rxCallEvent s)
  | .rxFirst => .next (rxFirstEvent s)
  | .rxPoll => .next (rxPollEvent s)
  | .rxEdge t => .next (rxEdgeEvent t s)
  | .rxWaitA => .next (rxWaitAEvent s)
  | .rxReadA => .next (rxReadAEvent s)
  | .rxWaitB a => .next (rxWaitBEvent a s)
  | .rxReadB a => .next (rxReadBEvent a s)

/-- A request that has been started makes its first event, if it has one; a request that has been
answered without an event is complete. -/
def launch (s : State) : Host.Outcome State Fault Refusal :=
  if s.reqBusy then event s else .next s

/-- A request is presented: refused while another is active (60_exceptions.md R338), else accepted
(10_state.md R31), its body run up to its first event, and that event made. -/
def request (body : State → State) (s : State) : Host.Outcome State Fault Refusal :=
  if s.reqBusy then .refused .requestWhileBusy else launch (body (accept s))

/-- A SEND request of a table command: what a presented command frame stands for (log 3). -/
def sendRequest (mode : Mode) (command address param : Byte) (s : State) :
    Host.Outcome State Fault Refusal :=
  request (withCs (.send mode command address param)) s

/-- An ARC request: what a presented direct arc frame stands for (log 3). -/
def arcRequest (mode : Mode) (address brightness : Byte) (s : State) :
    Host.Outcome State Fault Refusal :=
  request (withCs (.arc mode address brightness)) s

end Sys2Proof.Machine
end

