-- ==== Sys2Proof/Machine/ArcFrames.lean ====
section
/-! DEFINITION. The meanings of the three direct arc frame rows (30_encoding.md R81 to R83): the ARC request that formats and sends the frame (log 3). -/

namespace Sys2Proof.Machine

/-- DIRECT_ARC (ARC_S): ARC of a short address (30_encoding.md R81, 43_dispatcher.md R298). -/
def execDirectArcS (address brightness : Byte) (s : State) : Host.Outcome State Fault Refusal :=
  arcRequest .slave address brightness s

/-- DIRECT_ARC (ARC_G): ARC of a group (30_encoding.md R82, 43_dispatcher.md R298). -/
def execDirectArcG (address brightness : Byte) (s : State) : Host.Outcome State Fault Refusal :=
  arcRequest .group address brightness s

/-- DIRECT_ARC (ARC_B): ARC to all (30_encoding.md R83, 43_dispatcher.md R298). -/
def execDirectArcB (brightness : Byte) (s : State) : Host.Outcome State Fault Refusal :=
  arcRequest .broadcast 0 brightness s

end Sys2Proof.Machine
end

