-- ==== Sys2Proof/Machine/ParamCommands.lean ====
section
/-! DEFINITION. The meanings of the six with-parameter command rows (40_frame_codec.md R179 to R184): the SEND request of the opcode with its parameter (log 3). -/

namespace Sys2Proof.Machine

/-- GO_TO_SCENE, sent once (40_frame_codec.md R179). -/
def execGoToScene (mode : Mode) (address param : Byte) (s : State) :
    Host.Outcome State Fault Refusal :=
  sendRequest mode 0x10 address param s

/-- STORE_DTR_AS_SCENE, sent twice (40_frame_codec.md R180). -/
def execStoreDtrAsScene (mode : Mode) (address param : Byte) (s : State) :
    Host.Outcome State Fault Refusal :=
  sendRequest mode 0x40 address param s

/-- REMOVE_FROM_SCENE, sent twice (40_frame_codec.md R181). -/
def execRemoveFromScene (mode : Mode) (address param : Byte) (s : State) :
    Host.Outcome State Fault Refusal :=
  sendRequest mode 0x50 address param s

/-- ADD_TO_GROUP, sent twice (40_frame_codec.md R182). -/
def execAddToGroup (mode : Mode) (address param : Byte) (s : State) :
    Host.Outcome State Fault Refusal :=
  sendRequest mode 0x60 address param s

/-- REMOVE_FROM_GROUP, sent twice (40_frame_codec.md R183). -/
def execRemoveFromGroup (mode : Mode) (address param : Byte) (s : State) :
    Host.Outcome State Fault Refusal :=
  sendRequest mode 0x70 address param s

/-- QUERY_SCENE_LEVEL, sent once, no answer is received (40_frame_codec.md R184). -/
def execQuerySceneLevel (mode : Mode) (address param : Byte) (s : State) :
    Host.Outcome State Fault Refusal :=
  sendRequest mode 0xB0 address param s

end Sys2Proof.Machine
end

