-- ==== Sys2Proof/Machine/PlainCommands.lean ====
section
/-! DEFINITION. The meanings of the 29 plain command rows (40_frame_codec.md R150 to R178): the SEND request of the opcode (log 3). -/

namespace Sys2Proof.Machine

/-- OFF, sent once (40_frame_codec.md R150). -/
def execOff (mode : Mode) (address : Byte) (s : State) :
    Host.Outcome State Fault Refusal :=
  sendRequest mode 0x00 address 0 s

/-- UP, sent once (40_frame_codec.md R151). -/
def execUp (mode : Mode) (address : Byte) (s : State) :
    Host.Outcome State Fault Refusal :=
  sendRequest mode 0x01 address 0 s

/-- DOWN, sent once (40_frame_codec.md R152). -/
def execDown (mode : Mode) (address : Byte) (s : State) :
    Host.Outcome State Fault Refusal :=
  sendRequest mode 0x02 address 0 s

/-- STEP_UP, sent once (40_frame_codec.md R153). -/
def execStepUp (mode : Mode) (address : Byte) (s : State) :
    Host.Outcome State Fault Refusal :=
  sendRequest mode 0x03 address 0 s

/-- STEP_DOWN, sent once (40_frame_codec.md R154). -/
def execStepDown (mode : Mode) (address : Byte) (s : State) :
    Host.Outcome State Fault Refusal :=
  sendRequest mode 0x04 address 0 s

/-- RECALL_MAX_LEVEL, sent once (40_frame_codec.md R155). -/
def execRecallMaxLevel (mode : Mode) (address : Byte) (s : State) :
    Host.Outcome State Fault Refusal :=
  sendRequest mode 0x05 address 0 s

/-- RECALL_MIN_LEVEL, sent once (40_frame_codec.md R156). -/
def execRecallMinLevel (mode : Mode) (address : Byte) (s : State) :
    Host.Outcome State Fault Refusal :=
  sendRequest mode 0x06 address 0 s

/-- STEP_DOWN_AND_OFF, sent once (40_frame_codec.md R157). -/
def execStepDownAndOff (mode : Mode) (address : Byte) (s : State) :
    Host.Outcome State Fault Refusal :=
  sendRequest mode 0x07 address 0 s

/-- ON_AND_STEP_UP, sent once (40_frame_codec.md R158). -/
def execOnAndStepUp (mode : Mode) (address : Byte) (s : State) :
    Host.Outcome State Fault Refusal :=
  sendRequest mode 0x08 address 0 s

/-- RESET, sent twice (40_frame_codec.md R159). -/
def execReset (mode : Mode) (address : Byte) (s : State) :
    Host.Outcome State Fault Refusal :=
  sendRequest mode 0x20 address 0 s

/-- STORE_ACTUAL_LEVEL_IN_DTR, sent twice (40_frame_codec.md R160). -/
def execStoreActualLevelInDtr (mode : Mode) (address : Byte) (s : State) :
    Host.Outcome State Fault Refusal :=
  sendRequest mode 0x21 address 0 s

/-- STORE_DTR_AS_MAX_LEVEL, sent twice (40_frame_codec.md R161). -/
def execStoreDtrAsMaxLevel (mode : Mode) (address : Byte) (s : State) :
    Host.Outcome State Fault Refusal :=
  sendRequest mode 0x2A address 0 s

/-- STORE_DTR_AS_MIN_LEVEL, sent twice (40_frame_codec.md R162). -/
def execStoreDtrAsMinLevel (mode : Mode) (address : Byte) (s : State) :
    Host.Outcome State Fault Refusal :=
  sendRequest mode 0x2B address 0 s

/-- STORE_DTR_AS_SYSTEM_FAILURE_LEVEL, sent twice (40_frame_codec.md R163). -/
def execStoreDtrAsSystemFailureLevel (mode : Mode) (address : Byte) (s : State) :
    Host.Outcome State Fault Refusal :=
  sendRequest mode 0x2C address 0 s

/-- STORE_DTR_AS_POWER_ON_LEVEL, sent twice (40_frame_codec.md R164). -/
def execStoreDtrAsPowerOnLevel (mode : Mode) (address : Byte) (s : State) :
    Host.Outcome State Fault Refusal :=
  sendRequest mode 0x2D address 0 s

/-- STORE_DTR_AS_FADE_TIME, sent twice (40_frame_codec.md R165). -/
def execStoreDtrAsFadeTime (mode : Mode) (address : Byte) (s : State) :
    Host.Outcome State Fault Refusal :=
  sendRequest mode 0x2E address 0 s

/-- STORE_DTR_AS_FADE_RATE, sent twice (40_frame_codec.md R166). -/
def execStoreDtrAsFadeRate (mode : Mode) (address : Byte) (s : State) :
    Host.Outcome State Fault Refusal :=
  sendRequest mode 0x2F address 0 s

/-- QUERY_STATUS, sent once, no answer is received (40_frame_codec.md R167). -/
def execQueryStatus (mode : Mode) (address : Byte) (s : State) :
    Host.Outcome State Fault Refusal :=
  sendRequest mode 0x90 address 0 s

/-- QUERY_BALLAST, sent once, no answer is received (40_frame_codec.md R168). -/
def execQueryBallast (mode : Mode) (address : Byte) (s : State) :
    Host.Outcome State Fault Refusal :=
  sendRequest mode 0x91 address 0 s

/-- QUERY_LAMP_FAILURE, sent once, no answer is received (40_frame_codec.md R169). -/
def execQueryLampFailure (mode : Mode) (address : Byte) (s : State) :
    Host.Outcome State Fault Refusal :=
  sendRequest mode 0x92 address 0 s

/-- QUERY_LAMP_POWER_ON, sent once, no answer is received (40_frame_codec.md R170). -/
def execQueryLampPowerOn (mode : Mode) (address : Byte) (s : State) :
    Host.Outcome State Fault Refusal :=
  sendRequest mode 0x93 address 0 s

/-- QUERY_LIMIT_ERROR, sent once, no answer is received (40_frame_codec.md R171). -/
def execQueryLimitError (mode : Mode) (address : Byte) (s : State) :
    Host.Outcome State Fault Refusal :=
  sendRequest mode 0x94 address 0 s

/-- QUERY_RESET_STATE, sent once, no answer is received (40_frame_codec.md R172). -/
def execQueryResetState (mode : Mode) (address : Byte) (s : State) :
    Host.Outcome State Fault Refusal :=
  sendRequest mode 0x95 address 0 s

/-- QUERY_MISSING_SHORT_ADDRESS, sent once, no answer is received (40_frame_codec.md R173). -/
def execQueryMissingShortAddress (mode : Mode) (address : Byte) (s : State) :
    Host.Outcome State Fault Refusal :=
  sendRequest mode 0x96 address 0 s

/-- QUERY_VERSION_NUMBER, sent once, no answer is received (40_frame_codec.md R174). -/
def execQueryVersionNumber (mode : Mode) (address : Byte) (s : State) :
    Host.Outcome State Fault Refusal :=
  sendRequest mode 0x97 address 0 s

/-- QUERY_CONTENT_DTR, sent once, no answer is received (40_frame_codec.md R175). -/
def execQueryContentDtr (mode : Mode) (address : Byte) (s : State) :
    Host.Outcome State Fault Refusal :=
  sendRequest mode 0x98 address 0 s

/-- QUERY_DEVICE_TYPE, sent once, no answer is received (40_frame_codec.md R176). -/
def execQueryDeviceType (mode : Mode) (address : Byte) (s : State) :
    Host.Outcome State Fault Refusal :=
  sendRequest mode 0x99 address 0 s

/-- QUERY_PHYSICAL_MINIMUM_LEVEL, sent once, no answer is received (40_frame_codec.md R177). -/
def execQueryPhysicalMinimumLevel (mode : Mode) (address : Byte) (s : State) :
    Host.Outcome State Fault Refusal :=
  sendRequest mode 0x9A address 0 s

/-- QUERY_POWER_FAILURE, sent once, no answer is received (40_frame_codec.md R178). -/
def execQueryPowerFailure (mode : Mode) (address : Byte) (s : State) :
    Host.Outcome State Fault Refusal :=
  sendRequest mode 0x9B address 0 s

end Sys2Proof.Machine
end

