-- ==== Sys2Proof/Machine/Requests.lean ====
section
/-! DEFINITION. The meanings of the eleven requests (30_encoding.md R100). -/

namespace Sys2Proof.Machine

/-- SETUP (43_dispatcher.md R310); it does not use WithCS. -/
def execSetup (baud : Word32) (txbits rxbits stop txpin rxpin : Byte) (s : State) :
    Host.Outcome State Fault Refusal :=
  request (setupBody baud txbits rxbits stop txpin rxpin) s

/-- ARC (43_dispatcher.md R298). -/
def execArc (mode : Mode) (address brightness : Byte) (s : State) :
    Host.Outcome State Fault Refusal :=
  arcRequest mode address brightness s

/-- SEND (43_dispatcher.md R291). -/
def execSend (mode : Mode) (command address param : Byte) (s : State) :
    Host.Outcome State Fault Refusal :=
  sendRequest mode command address param s

/-- TRANSMIT: the raw value, once, whatever it means (41_line_encoder.md R221). -/
def execTransmit (value : BitVec 16) (s : State) : Host.Outcome State Fault Refusal :=
  request (withCs (.transmit value)) s

/-- RECEIVE (42_line_receiver.md R261). -/
def execReceive (s : State) : Host.Outcome State Fault Refusal := request receiveBody s

/-- CLASSIFY (40_frame_codec.md R122). -/
def execClassify (command : Byte) (s : State) : Host.Outcome State Fault Refusal :=
  request (answer ((classifyCmd s.params.tables command).map classCode)) s

/-- TMODE (40_frame_codec.md R123). -/
def execTmode (command : Byte) (s : State) : Host.Outcome State Fault Refusal :=
  request (answer ((tmodeCmd s.params.tables command).map tmodeCode)) s

/-- ENC_ARC (40_frame_codec.md R125). -/
def execEncArc (mode : Mode) (address brightness : Byte) (s : State) :
    Host.Outcome State Fault Refusal :=
  request (answer (encodeArc mode address brightness)) s

/-- ENC_CMD (40_frame_codec.md R127). -/
def execEncCmd (mode : Mode) (address command : Byte) (s : State) :
    Host.Outcome State Fault Refusal :=
  request (answer (encodeCommand s.params.tables mode address command)) s

/-- ENC_PARAM (40_frame_codec.md R129). -/
def execEncParam (mode : Mode) (address command param : Byte) (s : State) :
    Host.Outcome State Fault Refusal :=
  request (answer (encodeParam s.params.tables mode address command param)) s

/-- ENC_SPECIAL; the data operand is the request's param field (40_frame_codec.md R130). -/
def execEncSpecial (command data : Byte) (s : State) : Host.Outcome State Fault Refusal :=
  request (answer (encodeSpecial s.params.tables command data)) s

end Sys2Proof.Machine
end

