-- ==== Sys2Proof/Machine/SpecialCommands.lean ====
section
/-! DEFINITION. The meanings of the 14 special command rows (40_frame_codec.md R185 to R198): the SEND request of the opcode, whose mode and address are not read (log 3). -/

namespace Sys2Proof.Machine

/-- TERMINATE, sent once; the data operand is ignored (40_frame_codec.md R185). -/
def execTerminate (data : Byte) (s : State) : Host.Outcome State Fault Refusal :=
  sendRequest .broadcast 0xA1 0 data s

/-- DATA_TRANSFER_REGISTER, sent once; the data byte is the operand (40_frame_codec.md R186). -/
def execDataTransferRegister (data : Byte) (s : State) : Host.Outcome State Fault Refusal :=
  sendRequest .broadcast 0xA3 0 data s

/-- INITIALISE, sent twice; the data byte is the operand (40_frame_codec.md R187). -/
def execInitialise (data : Byte) (s : State) : Host.Outcome State Fault Refusal :=
  sendRequest .broadcast 0xA5 0 data s

/-- RANDOMISE, sent twice; the data operand is ignored (40_frame_codec.md R188). -/
def execRandomise (data : Byte) (s : State) : Host.Outcome State Fault Refusal :=
  sendRequest .broadcast 0xA7 0 data s

/-- COMPARE, sent once, no answer is received; the data operand is ignored (40_frame_codec.md R189). -/
def execCompare (data : Byte) (s : State) : Host.Outcome State Fault Refusal :=
  sendRequest .broadcast 0xA9 0 data s

/-- WITHDRAW, sent once; the data operand is ignored (40_frame_codec.md R190). -/
def execWithdraw (data : Byte) (s : State) : Host.Outcome State Fault Refusal :=
  sendRequest .broadcast 0xAB 0 data s

/-- SEARCHADDRH, sent once; the data byte is the operand (40_frame_codec.md R191). -/
def execSearchaddrh (data : Byte) (s : State) : Host.Outcome State Fault Refusal :=
  sendRequest .broadcast 0xB1 0 data s

/-- SEARCHADDRM, sent once; the data byte is the operand (40_frame_codec.md R192). -/
def execSearchaddrm (data : Byte) (s : State) : Host.Outcome State Fault Refusal :=
  sendRequest .broadcast 0xB3 0 data s

/-- SEARCHADDRL, sent once; the data byte is the operand (40_frame_codec.md R193). -/
def execSearchaddrl (data : Byte) (s : State) : Host.Outcome State Fault Refusal :=
  sendRequest .broadcast 0xB5 0 data s

/-- PROGRAM_SHORT_ADDRESS, sent once; a 6-bit payload (40_frame_codec.md R194). -/
def execProgramShortAddress (data : Byte) (s : State) : Host.Outcome State Fault Refusal :=
  sendRequest .broadcast 0xB7 0 data s

/-- VERIFY_SHORT_ADDRESS, sent once, no answer is received; a 6-bit payload (40_frame_codec.md R195). -/
def execVerifyShortAddress (data : Byte) (s : State) : Host.Outcome State Fault Refusal :=
  sendRequest .broadcast 0xB9 0 data s

/-- QUERY_SHORT_ADDRESS, sent once, no answer is received; the data operand is ignored (40_frame_codec.md R196). -/
def execQueryShortAddress (data : Byte) (s : State) : Host.Outcome State Fault Refusal :=
  sendRequest .broadcast 0xBB 0 data s

/-- PHYSICAL_SELECTION, sent once; the data operand is ignored (40_frame_codec.md R197). -/
def execPhysicalSelection (data : Byte) (s : State) : Host.Outcome State Fault Refusal :=
  sendRequest .broadcast 0xBD 0 data s

/-- ENABLE_DEVICE_TYPE_X, sent once; the data byte is the operand (40_frame_codec.md R198). -/
def execEnableDeviceTypeX (data : Byte) (s : State) : Host.Outcome State Fault Refusal :=
  sendRequest .broadcast 0xC1 0 data s

end Sys2Proof.Machine
end

