-- ==== Sys2Proof/Machine/Dispatch.lean ====
section
/-! DEFINITION. Dispatch: one arm per instruction of the opcode table. -/

namespace Sys2Proof.Machine

def exec (i : Instr) (s : State) : Host.Outcome State Fault Refusal :=
  match i with
  | .setup baud txbits rxbits stop txpin rxpin => Sys2Proof.Machine.execSetup baud txbits rxbits stop txpin rxpin s
  | .arc mode address brightness => Sys2Proof.Machine.execArc mode address brightness s
  | .send mode command address param => Sys2Proof.Machine.execSend mode command address param s
  | .transmit value => Sys2Proof.Machine.execTransmit value s
  | .receive => Sys2Proof.Machine.execReceive s
  | .classify command => Sys2Proof.Machine.execClassify command s
  | .tmode command => Sys2Proof.Machine.execTmode command s
  | .encArc mode address brightness => Sys2Proof.Machine.execEncArc mode address brightness s
  | .encCmd mode address command => Sys2Proof.Machine.execEncCmd mode address command s
  | .encParam mode address command param => Sys2Proof.Machine.execEncParam mode address command param s
  | .encSpecial command data => Sys2Proof.Machine.execEncSpecial command data s
  | .directArcS address brightness => Sys2Proof.Machine.execDirectArcS address brightness s
  | .directArcG address brightness => Sys2Proof.Machine.execDirectArcG address brightness s
  | .directArcB brightness => Sys2Proof.Machine.execDirectArcB brightness s
  | .off mode address => Sys2Proof.Machine.execOff mode address s
  | .up mode address => Sys2Proof.Machine.execUp mode address s
  | .down mode address => Sys2Proof.Machine.execDown mode address s
  | .stepUp mode address => Sys2Proof.Machine.execStepUp mode address s
  | .stepDown mode address => Sys2Proof.Machine.execStepDown mode address s
  | .recallMaxLevel mode address => Sys2Proof.Machine.execRecallMaxLevel mode address s
  | .recallMinLevel mode address => Sys2Proof.Machine.execRecallMinLevel mode address s
  | .stepDownAndOff mode address => Sys2Proof.Machine.execStepDownAndOff mode address s
  | .onAndStepUp mode address => Sys2Proof.Machine.execOnAndStepUp mode address s
  | .reset mode address => Sys2Proof.Machine.execReset mode address s
  | .storeActualLevelInDtr mode address => Sys2Proof.Machine.execStoreActualLevelInDtr mode address s
  | .storeDtrAsMaxLevel mode address => Sys2Proof.Machine.execStoreDtrAsMaxLevel mode address s
  | .storeDtrAsMinLevel mode address => Sys2Proof.Machine.execStoreDtrAsMinLevel mode address s
  | .storeDtrAsSystemFailureLevel mode address => Sys2Proof.Machine.execStoreDtrAsSystemFailureLevel mode address s
  | .storeDtrAsPowerOnLevel mode address => Sys2Proof.Machine.execStoreDtrAsPowerOnLevel mode address s
  | .storeDtrAsFadeTime mode address => Sys2Proof.Machine.execStoreDtrAsFadeTime mode address s
  | .storeDtrAsFadeRate mode address => Sys2Proof.Machine.execStoreDtrAsFadeRate mode address s
  | .queryStatus mode address => Sys2Proof.Machine.execQueryStatus mode address s
  | .queryBallast mode address => Sys2Proof.Machine.execQueryBallast mode address s
  | .queryLampFailure mode address => Sys2Proof.Machine.execQueryLampFailure mode address s
  | .queryLampPowerOn mode address => Sys2Proof.Machine.execQueryLampPowerOn mode address s
  | .queryLimitError mode address => Sys2Proof.Machine.execQueryLimitError mode address s
  | .queryResetState mode address => Sys2Proof.Machine.execQueryResetState mode address s
  | .queryMissingShortAddress mode address => Sys2Proof.Machine.execQueryMissingShortAddress mode address s
  | .queryVersionNumber mode address => Sys2Proof.Machine.execQueryVersionNumber mode address s
  | .queryContentDtr mode address => Sys2Proof.Machine.execQueryContentDtr mode address s
  | .queryDeviceType mode address => Sys2Proof.Machine.execQueryDeviceType mode address s
  | .queryPhysicalMinimumLevel mode address => Sys2Proof.Machine.execQueryPhysicalMinimumLevel mode address s
  | .queryPowerFailure mode address => Sys2Proof.Machine.execQueryPowerFailure mode address s
  | .goToScene mode address param => Sys2Proof.Machine.execGoToScene mode address param s
  | .storeDtrAsScene mode address param => Sys2Proof.Machine.execStoreDtrAsScene mode address param s
  | .removeFromScene mode address param => Sys2Proof.Machine.execRemoveFromScene mode address param s
  | .addToGroup mode address param => Sys2Proof.Machine.execAddToGroup mode address param s
  | .removeFromGroup mode address param => Sys2Proof.Machine.execRemoveFromGroup mode address param s
  | .querySceneLevel mode address param => Sys2Proof.Machine.execQuerySceneLevel mode address param s
  | .terminate data => Sys2Proof.Machine.execTerminate data s
  | .dataTransferRegister data => Sys2Proof.Machine.execDataTransferRegister data s
  | .initialise data => Sys2Proof.Machine.execInitialise data s
  | .randomise data => Sys2Proof.Machine.execRandomise data s
  | .compare data => Sys2Proof.Machine.execCompare data s
  | .withdraw data => Sys2Proof.Machine.execWithdraw data s
  | .searchaddrh data => Sys2Proof.Machine.execSearchaddrh data s
  | .searchaddrm data => Sys2Proof.Machine.execSearchaddrm data s
  | .searchaddrl data => Sys2Proof.Machine.execSearchaddrl data s
  | .programShortAddress data => Sys2Proof.Machine.execProgramShortAddress data s
  | .verifyShortAddress data => Sys2Proof.Machine.execVerifyShortAddress data s
  | .queryShortAddress data => Sys2Proof.Machine.execQueryShortAddress data s
  | .physicalSelection data => Sys2Proof.Machine.execPhysicalSelection data s
  | .enableDeviceTypeX data => Sys2Proof.Machine.execEnableDeviceTypeX data s

end Sys2Proof.Machine
end

