-- ==== Sys2Proof/Machine/Step.lean ====
section
/-! DEFINITION. One step: take what is presented and run the instruction it is; else make the next event of the active request; else wait for a request. -/

namespace Sys2Proof.Machine

/-- One step of the machine. What is presented is executed (a refusal where it is no instruction,
60_exceptions.md R337); an active request makes its next event (00_scope.md R10);
an idle block with nothing presented waits (70_reset_and_hazards.md R372). -/
def step (s : State) : Host.Outcome State Fault Refusal :=
  match fetch s with
  | some (p, s') =>
    match p.instr with
    | .ok i => exec i s'
    | .error why => .refused (.notAnInstruction why)
  | none => if s.reqBusy then event s else .next s

/-- The word of the opcode table is presented on the port (log 4, log 9). -/
def State.withFetchWord (s : State) (nbits w : Nat) : State :=
  { s with port := some (present (tableWord nbits w)) }

end Sys2Proof.Machine
end

