-- ==== Sys2Proof/Machine/Assembler.lean ====
section
/-! DEFINITION. The assembler syntax of requests, at the level of operands, and the binding-level calls that expand to requests (30_encoding.md R104, R105; log 22). -/

namespace Sys2Proof.Machine

/-- One operand of an assembler line (30_encoding.md R104): a number, a mode letter, `_`, or a
command name. -/
inductive AsmOperand where
  | num (n : Nat)
  | mode (m : Mode)
  | blank
  | name (command : String)
  deriving DecidableEq, Repr

/-- One assembler line: a mnemonic and its operands (30_encoding.md R104). -/
structure AsmLine where
  mnemonic : String
  operands : List AsmOperand
  deriving DecidableEq, Repr

/-- The command names and their opcodes (40_frame_codec.md R150 to R198). -/
def commandNames : List (String × Byte) :=
  [("OFF", 0x00),
   ("UP", 0x01),
   ("DOWN", 0x02),
   ("STEP_UP", 0x03),
   ("STEP_DOWN", 0x04),
   ("RECALL_MAX_LEVEL", 0x05),
   ("RECALL_MIN_LEVEL", 0x06),
   ("STEP_DOWN_AND_OFF", 0x07),
   ("ON_AND_STEP_UP", 0x08),
   ("RESET", 0x20)] ++
  [("STORE_ACTUAL_LEVEL_IN_DTR", 0x21),
   ("STORE_DTR_AS_MAX_LEVEL", 0x2A),
   ("STORE_DTR_AS_MIN_LEVEL", 0x2B),
   ("STORE_DTR_AS_SYSTEM_FAILURE_LEVEL", 0x2C),
   ("STORE_DTR_AS_POWER_ON_LEVEL", 0x2D),
   ("STORE_DTR_AS_FADE_TIME", 0x2E),
   ("STORE_DTR_AS_FADE_RATE", 0x2F),
   ("QUERY_STATUS", 0x90),
   ("QUERY_BALLAST", 0x91),
   ("QUERY_LAMP_FAILURE", 0x92)] ++
  [("QUERY_LAMP_POWER_ON", 0x93),
   ("QUERY_LIMIT_ERROR", 0x94),
   ("QUERY_RESET_STATE", 0x95),
   ("QUERY_MISSING_SHORT_ADDRESS", 0x96),
   ("QUERY_VERSION_NUMBER", 0x97),
   ("QUERY_CONTENT_DTR", 0x98),
   ("QUERY_DEVICE_TYPE", 0x99),
   ("QUERY_PHYSICAL_MINIMUM_LEVEL", 0x9A),
   ("QUERY_POWER_FAILURE", 0x9B),
   ("GO_TO_SCENE", 0x10)] ++
  [("STORE_DTR_AS_SCENE", 0x40),
   ("REMOVE_FROM_SCENE", 0x50),
   ("ADD_TO_GROUP", 0x60),
   ("REMOVE_FROM_GROUP", 0x70),
   ("QUERY_SCENE_LEVEL", 0xB0),
   ("TERMINATE", 0xA1),
   ("DATA_TRANSFER_REGISTER", 0xA3),
   ("INITIALISE", 0xA5),
   ("RANDOMISE", 0xA7),
   ("COMPARE", 0xA9)] ++
  [("WITHDRAW", 0xAB),
   ("SEARCHADDRH", 0xB1),
   ("SEARCHADDRM", 0xB3),
   ("SEARCHADDRL", 0xB5),
   ("PROGRAM_SHORT_ADDRESS", 0xB7),
   ("VERIFY_SHORT_ADDRESS", 0xB9),
   ("QUERY_SHORT_ADDRESS", 0xBB),
   ("PHYSICAL_SELECTION", 0xBD),
   ("ENABLE_DEVICE_TYPE_X", 0xC1)]

/-- A number in an operand field of `width` bits; a number that does not fit is no operand
(log 22). -/
def fieldOf (width n : Nat) : Option (BitVec width) :=
  if n < 2 ^ width then some (BitVec.ofNat width n) else none

/-- A numeric operand; an omitted trailing operand is 0 (30_encoding.md R104). -/
def numOperand (width : Nat) (o : Option AsmOperand) : Option (BitVec width) :=
  match o with
  | none => some 0
  | some (.num n) => fieldOf width n
  | some _ => none

/-- An opcode operand, a number or a command name (30_encoding.md R104). -/
def opcodeOperand (o : Option AsmOperand) : Option Byte :=
  match o with
  | some (.name command) => commandNames.lookup command
  | other => numOperand 8 other

/-- An address operand; for mode B it may be written `_`, meaning 0 (30_encoding.md R104). -/
def addressOperand (mode : Mode) (o : Option AsmOperand) : Option Byte :=
  match o with
  | some .blank => if mode = .broadcast then some 0 else none
  | other => numOperand 8 other

/-- A mode operand, written S, G or B; an omitted one is code 0, Slave (30_encoding.md R102, R104). -/
def modeOperand (o : Option AsmOperand) : Option Mode :=
  match o with
  | none => some .slave
  | some (.mode m) => some m
  | some _ => none

/-- No operands beyond the first `n`. -/
def arityOk (n : Nat) (ops : List AsmOperand) : Option Unit := if ops.length ≤ n then some () else none

/-- The request an assembler line denotes (30_encoding.md R104). -/
def assemble (line : AsmLine) : Option Instr :=
  let ops := line.operands
  match line.mnemonic with
  | "SETUP" => do
    arityOk 6 ops
    return .setup (← numOperand 32 ops[0]?) (← numOperand 8 ops[1]?) (← numOperand 8 ops[2]?)
      (← numOperand 8 ops[3]?) (← numOperand 8 ops[4]?) (← numOperand 8 ops[5]?)
  | "ARC" => do
    arityOk 3 ops
    let mode ← modeOperand ops[0]?
    return .arc mode (← addressOperand mode ops[1]?) (← numOperand 8 ops[2]?)
  | "SEND" => do
    arityOk 4 ops
    let mode ← modeOperand ops[0]?
    return .send mode (← opcodeOperand ops[1]?) (← addressOperand mode ops[2]?) (← numOperand 8 ops[3]?)
  | "TRANSMIT" => do
    arityOk 1 ops
    return .transmit (← numOperand 16 ops[0]?)
  | "RECEIVE" => do
    arityOk 0 ops
    return .receive
  | "CLASSIFY" => do
    arityOk 1 ops
    return .classify (← opcodeOperand ops[0]?)
  | "TMODE" => do
    arityOk 1 ops
    return .tmode (← opcodeOperand ops[0]?)
  | "ENC_ARC" => do
    arityOk 3 ops
    let mode ← modeOperand ops[0]?
    return .encArc mode (← addressOperand mode ops[1]?) (← numOperand 8 ops[2]?)
  | "ENC_CMD" => do
    arityOk 3 ops
    let mode ← modeOperand ops[0]?
    return .encCmd mode (← addressOperand mode ops[1]?) (← opcodeOperand ops[2]?)
  | "ENC_PARAM" => do
    arityOk 4 ops
    let mode ← modeOperand ops[0]?
    return .encParam mode (← addressOperand mode ops[1]?) (← opcodeOperand ops[2]?) (← numOperand 8 ops[3]?)
  | "ENC_SPECIAL" => do
    arityOk 2 ops
    return .encSpecial (← opcodeOperand ops[0]?) (← numOperand 8 ops[1]?)
  | _ => none

/-- The binding-level calls (30_encoding.md R105). -/
inductive BindingCall where
  | setup (txpin rxpin : Byte)
  | arc (mode : Mode) (address brightness : Byte)
  | send (mode : Mode) (command x : Byte)
  deriving DecidableEq, Repr

/-- The request a binding-level call expands to (30_encoding.md R105). -/
def BindingCall.expand (t : Tables) (call : BindingCall) : Instr :=
  match call with
  | .setup txpin rxpin => .setup 1200 16 8 2 txpin rxpin
  | .arc mode address brightness => .arc mode address brightness
  | .send mode command x =>
    if mode ≠ .broadcast ∧ (specialLookup t command).isNone then .send mode command x 0
    else .send mode command 0 x

end Sys2Proof.Machine
end

