-- ==== Sys2Proof/Safety.lean ====
section
/-! DEFINITION. What counts as a safe state: the coherence of registers, phases and the place in the pseudocode that holds at reset and that every step keeps; and the ideal timer of the test vectors. -/

namespace Sys2Proof.Safety

open Sys2Proof.Machine

/-! Where the block is, by the event that comes next. -/

/-- A symbol is due or being held (41_line_encoder.md R229). -/
def sendingSymbol : Ctl → Bool
  | .txWrite | .txHold | .txStart | .txPoll => true
  | _ => false

/-- A symbol has been written and is being held (41_line_encoder.md R226, R234). -/
def holdingSymbol : Ctl → Bool
  | .txHold | .txStart | .txPoll => true
  | _ => false

/-- The procedure Transmit is active (41_line_encoder.md R228). -/
def transmitting : Ctl → Bool
  | .txSettle | .txPause => true
  | c => sendingSymbol c

/-- The receiver waits for a falling edge (42_line_receiver.md R263). -/
def waitingForEdge : Ctl → Bool
  | .rxFirst | .rxPoll | .rxEdge _ => true
  | _ => false

/-- The receiver samples a window (42_line_receiver.md R264). -/
def sampling : Ctl → Bool
  | .rxWaitA | .rxReadA | .rxWaitB _ | .rxReadB _ => true
  | _ => false

/-- SETUP has written the configuration and its pin events follow (43_dispatcher.md R310). -/
def settingUp : Ctl → Bool
  | .setupTxMode | .setupIdleLevel | .setupRxMode => true
  | _ => false

/-- The next event needs the configuration (60_exceptions.md R336). -/
def needsConfig (c : Ctl) : Bool :=
  transmitting c || c == .repeatGap || c == .rxCall || waitingForEdge c || sampling c || settingUp c

/-- The block holds host interrupts disabled there, in the BusyDelay variant
(43_dispatcher.md R296). -/
def insideCs : Ctl → Bool
  | .repeatGap | .csExit _ _ => true
  | c => transmitting c

/-- The registers of the configuration hold legal values whenever it is valid (10_state.md R30). -/
def ConfigLegal (s : State) : Prop :=
  s.cfgValid = true →
    setupLegal s.params.numPins s.cfgBaud s.cfgTxbits s.cfgRxbits s.cfgStop s.cfgTxpin s.cfgRxpin = true

/-- The value of a response: 0 whenever the status is not OK, but 0xFFFF on a receive timeout
(30_encoding.md R101). -/
def ResponseLegal (r : Response) : Prop :=
  (r.status = .receiveTimeout → r.value = 0xFFFF) ∧
  (r.status ≠ .ok → r.status ≠ .receiveTimeout → r.value = 0)

/-- The transmitter's registers agree with each other and with the configuration
(10_state.md R32 to R34). -/
structure TxCoherent (s : State) : Prop where
  sequence : transmitting s.ctl = true →
    s.txSeq = symSeq s.txValue s.cfgTxbits.toNat s.cfgStop.toNat ∧
    s.txNsym.toNat = symCount s.cfgTxbits.toNat s.cfgStop.toNat ∧ s.txHb = halfBit s.cfgBaud
  index : transmitting s.ctl = true → s.txSym.toNat < s.txNsym.toNat
  phase : sendingSymbol s.ctl = true → s.txState = txPhase s.cfgTxbits.toNat s.txSym.toNat
  held : holdingSymbol s.ctl = true ∨ s.ctl = .txPause → s.txLine = s.txSeq[s.txSym.toNat]?
  settling : s.ctl = .txSettle → s.txState = .settle ∧ s.txLine = some .high
  pausing : s.ctl = .txPause → s.txState = .retry ∧ s.params.txVariant = .timerWait
  quiet : transmitting s.ctl = false → s.txState = .idle
  busyDelay : s.ctl = .txHold → s.params.txVariant = .busyDelay
  timerWait : s.ctl = .txStart ∨ s.ctl = .txPoll → s.params.txVariant = .timerWait
  noRetry : s.params.txVariant = .busyDelay → transmitting s.ctl = true → s.txRetries = 0
  bounds : s.txNsym.toNat ≤ 38 ∧ s.txSym.toNat ≤ 37 ∧ s.txSeq.length = s.txNsym.toNat

/-- The receiver's registers agree with each other and with the configuration
(10_state.md R35 to R37). -/
structure RxCoherent (s : State) : Prop where
  window : sampling s.ctl = true →
    s.rxK.toNat < windowCount s.cfgRxbits.toNat s.cfgStop.toNat ∧ s.rxState = rxPhase s.cfgRxbits.toNat s.rxK.toNat
  used : sampling s.ctl = true → s.rxShift.toNat < 2 ^ min s.rxK.toNat (2 * s.cfgRxbits.toNat)
  waiting : waitingForEdge s.ctl = true → s.rxState = .edgeWait
  quiet : waitingForEdge s.ctl = false → sampling s.ctl = false → s.rxState = .idle
  bounds : s.rxK.toNat ≤ 35

/-- The Dispatcher's registers and the critical section agree with the place in the pseudocode
(10_state.md R38, R39). -/
structure DspCoherent (s : State) : Prop where
  notGap : transmitting s.ctl = true → s.dspState ≠ .gap
  gap : s.ctl = .repeatGap → s.dspState = .gap
  quiet : transmitting s.ctl = false → s.ctl ≠ .repeatGap → s.dspState = .idle
  frame : transmitting s.ctl = true → s.dspState ≠ .idle → s.txValue = s.dspFrame
  second : s.dspState = .gap ∨ s.dspState = .tx2 → s.dspTmode = .repeatTwice
  guard : s.csActive = true ↔ s.params.txVariant = .busyDelay ∧ insideCs s.ctl = true
  enter : ∀ job, s.ctl = .csEnter job → s.params.txVariant = .busyDelay
  exit : ∀ r prior, s.ctl = .csExit r prior → s.params.txVariant = .busyDelay ∧ ResponseLegal r ∧
    r.status ≠ .transmissionFailed ∧ r.status ≠ .receiveTimeout ∧ (prior.isSome = true ↔ r.status ≠ .ok)

/-- The coherence every reachable state has. -/
structure Coherent (s : State) : Prop where
  config : ConfigLegal s
  busy : s.reqBusy = true ↔ s.ctl ≠ .idle
  unanswered : s.reqBusy = true → s.response = none
  legalAnswer : ∀ r, s.response = some r → ResponseLegal r
  configured : needsConfig s.ctl = true → s.cfgValid = true
  tx : TxCoherent s
  rx : RxCoherent s
  dsp : DspCoherent s

/-- The block is between requests: it can accept one (60_exceptions.md R355). -/
def Idle (s : State) : Prop :=
  s.reqBusy = false ∧ s.csActive = false ∧ s.dspState = .idle

/-- Idle and configured, with a legal configuration (60_exceptions.md R336, 10_state.md R30). -/
def Ready (s : State) : Prop := Idle s ∧ s.cfgValid = true ∧ ConfigLegal s

/-- Nothing is presented and nothing will be. -/
def Unattended (s : State) : Prop := s.port = none ∧ s.program = []

/-- `k` steps of the machine. -/
def runs (k : Nat) (s : State) : Host.Outcome State Fault Refusal := Host.Core.run Sys2Proof.core k s

/-! The rows of the opcode table. -/

/-- A codec request (40_frame_codec.md section 2). -/
def isCodec : Instr → Bool
  | .classify _ | .tmode _ | .encArc _ _ _ | .encCmd _ _ _ | .encParam _ _ _ _ | .encSpecial _ _ => true
  | _ => false

/-- The request a frame row stands for (log 3): ARC for the direct arc rows, SEND of the opcode for
the command rows (40_frame_codec.md R150 to R198). -/
def rowRequest : Instr → Option Instr
  | .directArcS address brightness => some (.arc .slave address brightness)
  | .directArcG address brightness => some (.arc .group address brightness)
  | .directArcB brightness => some (.arc .broadcast 0 brightness)
  | .off mode address => some (.send mode 0x00 address 0)
  | .up mode address => some (.send mode 0x01 address 0)
  | .down mode address => some (.send mode 0x02 address 0)
  | .stepUp mode address => some (.send mode 0x03 address 0)
  | .stepDown mode address => some (.send mode 0x04 address 0)
  | .recallMaxLevel mode address => some (.send mode 0x05 address 0)
  | .recallMinLevel mode address => some (.send mode 0x06 address 0)
  | .stepDownAndOff mode address => some (.send mode 0x07 address 0)
  | .onAndStepUp mode address => some (.send mode 0x08 address 0)
  | .reset mode address => some (.send mode 0x20 address 0)
  | .storeActualLevelInDtr mode address => some (.send mode 0x21 address 0)
  | .storeDtrAsMaxLevel mode address => some (.send mode 0x2A address 0)
  | .storeDtrAsMinLevel mode address => some (.send mode 0x2B address 0)
  | .storeDtrAsSystemFailureLevel mode address => some (.send mode 0x2C address 0)
  | .storeDtrAsPowerOnLevel mode address => some (.send mode 0x2D address 0)
  | .storeDtrAsFadeTime mode address => some (.send mode 0x2E address 0)
  | .storeDtrAsFadeRate mode address => some (.send mode 0x2F address 0)
  | .queryStatus mode address => some (.send mode 0x90 address 0)
  | .queryBallast mode address => some (.send mode 0x91 address 0)
  | .queryLampFailure mode address => some (.send mode 0x92 address 0)
  | .queryLampPowerOn mode address => some (.send mode 0x93 address 0)
  | .queryLimitError mode address => some (.send mode 0x94 address 0)
  | .queryResetState mode address => some (.send mode 0x95 address 0)
  | .queryMissingShortAddress mode address => some (.send mode 0x96 address 0)
  | .queryVersionNumber mode address => some (.send mode 0x97 address 0)
  | .queryContentDtr mode address => some (.send mode 0x98 address 0)
  | .queryDeviceType mode address => some (.send mode 0x99 address 0)
  | .queryPhysicalMinimumLevel mode address => some (.send mode 0x9A address 0)
  | .queryPowerFailure mode address => some (.send mode 0x9B address 0)
  | .goToScene mode address param => some (.send mode 0x10 address param)
  | .storeDtrAsScene mode address param => some (.send mode 0x40 address param)
  | .removeFromScene mode address param => some (.send mode 0x50 address param)
  | .addToGroup mode address param => some (.send mode 0x60 address param)
  | .removeFromGroup mode address param => some (.send mode 0x70 address param)
  | .querySceneLevel mode address param => some (.send mode 0xB0 address param)
  | .terminate data => some (.send .broadcast 0xA1 0 data)
  | .dataTransferRegister data => some (.send .broadcast 0xA3 0 data)
  | .initialise data => some (.send .broadcast 0xA5 0 data)
  | .randomise data => some (.send .broadcast 0xA7 0 data)
  | .compare data => some (.send .broadcast 0xA9 0 data)
  | .withdraw data => some (.send .broadcast 0xAB 0 data)
  | .searchaddrh data => some (.send .broadcast 0xB1 0 data)
  | .searchaddrm data => some (.send .broadcast 0xB3 0 data)
  | .searchaddrl data => some (.send .broadcast 0xB5 0 data)
  | .programShortAddress data => some (.send .broadcast 0xB7 0 data)
  | .verifyShortAddress data => some (.send .broadcast 0xB9 0 data)
  | .queryShortAddress data => some (.send .broadcast 0xBB 0 data)
  | .physicalSelection data => some (.send .broadcast 0xBD 0 data)
  | .enableDeviceTypeX data => some (.send .broadcast 0xC1 0 data)
  | _ => none

/-- The transmit mode of each row: `transmit_mode` of the opcode table; a direct arc is sent once
(43_dispatcher.md R298). -/
def rowMode : Instr → TxMode
  | .reset _ _ => .repeatTwice
  | .storeActualLevelInDtr _ _ => .repeatTwice
  | .storeDtrAsMaxLevel _ _ => .repeatTwice
  | .storeDtrAsMinLevel _ _ => .repeatTwice
  | .storeDtrAsSystemFailureLevel _ _ => .repeatTwice
  | .storeDtrAsPowerOnLevel _ _ => .repeatTwice
  | .storeDtrAsFadeTime _ _ => .repeatTwice
  | .storeDtrAsFadeRate _ _ => .repeatTwice
  | .storeDtrAsScene _ _ _ => .repeatTwice
  | .removeFromScene _ _ _ => .repeatTwice
  | .addToGroup _ _ _ => .repeatTwice
  | .removeFromGroup _ _ _ => .repeatTwice
  | .initialise _ => .repeatTwice
  | .randomise _ => .repeatTwice
  | .queryStatus _ _ => .query
  | .queryBallast _ _ => .query
  | .queryLampFailure _ _ => .query
  | .queryLampPowerOn _ _ => .query
  | .queryLimitError _ _ => .query
  | .queryResetState _ _ => .query
  | .queryMissingShortAddress _ _ => .query
  | .queryVersionNumber _ _ => .query
  | .queryContentDtr _ _ => .query
  | .queryDeviceType _ _ => .query
  | .queryPhysicalMinimumLevel _ _ => .query
  | .queryPowerFailure _ _ => .query
  | .querySceneLevel _ _ _ => .query
  | .compare _ => .query
  | .verifyShortAddress _ => .query
  | .queryShortAddress _ => .query
  | _ => .simple

/-- The frame a row sends: the frame presented, with the brightness of a direct arc clamped
(30_encoding.md R93). -/
def rowFrame (i : Instr) (f : Frame) : Frame :=
  match i with
  | .directArcS _ _ | .directArcG _ _ | .directArcB _ =>
    if frameData f = 0xFF then mkFrame (frameHeader f) 0xFE else f
  | _ => f

/-- The value of a header byte (30_encoding.md R81 to R86, R91). -/
def headerValue (mode : Mode) (address sel : Nat) : Nat :=
  match mode with
  | .slave => 2 * address + sel
  | .group => 0x80 + 2 * address + sel
  | .broadcast => 0xFE + sel

/-- The address is in range for the mode (30_encoding.md R92). -/
def addressInRange (mode : Mode) (address : Nat) : Prop :=
  match mode with
  | .slave => address ≤ 63
  | .group => address ≤ 15
  | .broadcast => True

/-- A reserved opcode, by its values (30_encoding.md R96). -/
def reservedValue (c : Nat) : Prop :=
  0x30 ≤ c ∧ c ≤ 0x3F ∨ 0x80 ≤ c ∧ c ≤ 0x8F ∨ 0x9C ≤ c ∧ c ≤ 0x9F ∨ 0xA0 ≤ c ∧ c ≤ 0xAF ∨ 0xC0 ≤ c ∧ c ≤ 0xDF

/-- The opcodes of the 29 plain commands (40_frame_codec.md R150 to R178). -/
def plainOpcodes : List Nat :=
  [0x00, 0x01, 0x02, 0x03, 0x04, 0x05, 0x06, 0x07, 0x08, 0x20, 0x21, 0x2A, 0x2B, 0x2C, 0x2D, 0x2E, 0x2F] ++
  [0x90, 0x91, 0x92, 0x93, 0x94, 0x95, 0x96, 0x97, 0x98, 0x99, 0x9A, 0x9B]

/-- The opcodes of the six with-parameter commands (40_frame_codec.md R179 to R184). -/
def paramOpcodes : List Nat := [0x10, 0x40, 0x50, 0x60, 0x70, 0xB0]

/-- The special opcodes whose data byte is 0 (40_frame_codec.md R185 to R198, rule Zero). -/
def zeroOpcodes : List Nat := [0xA1, 0xA7, 0xA9, 0xAB, 0xBB, 0xBD]

/-- The special opcodes whose data byte is the operand (rule Data). -/
def dataOpcodes : List Nat := [0xA3, 0xA5, 0xB1, 0xB3, 0xB5, 0xC1]

/-- The special opcodes with a 6-bit payload (rule Addr6). -/
def addr6Opcodes : List Nat := [0xB7, 0xB9]

/-- The 14 special opcodes (40_frame_codec.md R185 to R198). -/
def specialOpcodes : List Nat := zeroOpcodes ++ dataOpcodes ++ addr6Opcodes

/-- The opcodes sent twice (40_frame_codec.md section 3, transmit mode M_REPEAT). -/
def repeatOpcodes : List Nat :=
  [0x20, 0x21, 0x2A, 0x2B, 0x2C, 0x2D, 0x2E, 0x2F, 0x40, 0x50, 0x60, 0x70, 0xA5, 0xA7]

/-- The opcodes sent as queries (40_frame_codec.md section 3, transmit mode M_QUERY). -/
def queryOpcodes : List Nat :=
  [0x90, 0x91, 0x92, 0x93, 0x94, 0x95, 0x96, 0x97, 0x98, 0x99, 0x9A, 0x9B, 0xB0, 0xA9, 0xB9, 0xBB]

/-! States after a request. -/

/-- A request has been answered without an event: only the request state and the response change. -/
def answered (r : Response) (s : State) : State :=
  { s with reqBusy := false, ctl := .idle, response := some r }

/-- A request has ended with an error before any pin write: the receiver and the Dispatcher are idle
too (60_exceptions.md R335). -/
def failed (st : Status) (s : State) : State :=
  { answered { status := st, value := 0 } s with rxState := .idle, dspState := .idle }

/-- The transmitter's registers at the start of an attempt for a value (41_line_encoder.md R228). -/
def loaded (value : BitVec 16) (s : State) : State :=
  { s with
    txValue := value
    txRetries := 0
    txHb := halfBit s.cfgBaud
    txSeq := symSeq value s.cfgTxbits.toNat s.cfgStop.toNat
    txNsym := BitVec.ofNat 6 (symCount s.cfgTxbits.toNat s.cfgStop.toNat)
    txSym := 0 }

/-- A transmission has begun in the TimerWait variant: the first start symbol, High, has been written
and its wait is due (41_line_encoder.md R228, R235). -/
def firstSymbolSent (value : BitVec 16) (s : State) : State :=
  { loaded value s with
    reqBusy := true
    response := none
    txState := .start
    txLine := some .high
    ctl := .txStart
    trace := .writePin s.cfgTxpin (pinLevel s.params.txInvert .high) :: s.trace }

/-- A request in the BusyDelay variant has ended with an error: interrupts have been disabled and
restored with nothing between, and every register but the request state is as before the request,
`CS_TOKEN` too (43_dispatcher.md R296, 60_exceptions.md R335). -/
def failedInGuard (st : Status) (s : State) : State :=
  { failed st s with
    env := (drawToken s.env).2
    trace := .intRestore (drawToken s.env).1 :: .intDisableSave (drawToken s.env).1 :: s.trace }

/-- The Dispatcher's registers for a frame (43_dispatcher.md R291). -/
def dispatched (tmode : TxMode) (f : Frame) (s : State) : State :=
  { s with dspFrame := f, dspTmode := tmode }

/-- A transmission of a value has completed and the request has returned OK (41_line_encoder.md R233,
R238); the events are given, oldest first. -/
def transmitted (value : BitVec 16) (events : List Event) (s : State) : State :=
  { answered { status := .ok, value := 0 } (loaded value s) with
    txSym := BitVec.ofNat 6 (symCount s.cfgTxbits.toNat s.cfgStop.toNat - 1)
    txState := .idle
    txLine := some .high
    trace := events.reverse ++ s.trace }

/-! Events of a transmission (41_line_encoder.md R236; 95_test_vectors.md section 0). -/

/-- The symbols of a value under the configuration. -/
def symbolsOf (value : BitVec 16) (s : State) : List Level :=
  symSeq value s.cfgTxbits.toNat s.cfgStop.toNat

/-- The timer answers of the ideal environment for symbols that start at the given times: the start
read, then one poll a half-bit later. -/
def idealNows (hb : Nat) : List Nat → List Word32
  | [] => []
  | t :: rest => BitVec.ofNat 32 t :: BitVec.ofNat 32 (t + hb) :: idealNows hb rest

/-- The events of one symbol in the TimerWait variant under the ideal timer. -/
def idealSymbol (s : State) (hb t : Nat) (l : Level) : List Event :=
  [.writePin s.cfgTxpin (pinLevel s.params.txInvert l), .now (BitVec.ofNat 32 t), .now (BitVec.ofNat 32 (t + hb))]

/-- The events of one transmission in the TimerWait variant under the ideal timer, oldest first. -/
def idealAttempt (s : State) (hb : Nat) (times : List Nat) (levels : List Level) : List Event :=
  (List.zipWith (idealSymbol s hb) times levels).flatten ++ [.delayUs (6 * hb)]

/-- The events of one transmission in the BusyDelay variant, oldest first (41_line_encoder.md R234). -/
def busyAttempt (s : State) (hb : Nat) (levels : List Level) : List Event :=
  (levels.map fun l => [Event.writePin s.cfgTxpin (pinLevel s.params.txInvert l), .delayUs hb]).flatten ++
    [.delayUs (6 * hb)]

/-- The events of a dispatched frame in the BusyDelay variant: one transmission, or two with the
repeat gap between them (43_dispatcher.md R294, R295, R297). -/
def busyDispatch (s : State) (tmode : TxMode) (f : Frame) : List Event :=
  let once := busyAttempt s (500000 / s.cfgBaud.toNat) (symbolsOf f s)
  if tmode = .repeatTwice then once ++ [.delayUs 9000] ++ once else once

/-- Start times whose waits end before the 31-bit timer wraps. -/
def validTimes (hb : Nat) (times : List Nat) : Prop := ∀ t ∈ times, t + hb < 2 ^ 31

end Sys2Proof.Safety
end

