-- ==== Sys2Proof/Certificates/Slice0/Obligations.lean ====
section
/-! DEFINITION. The statements for the provers. Each docstring names the rule of spec/ it formalises. -/

open Sys2Proof Sys2Proof.Machine Sys2Proof.Safety

/-! Reset and the step. -/

/-- 70_reset_and_hazards.md R371: reset has made no event, the tx line is Unknown, and the block does
nothing until a request is presented; for all parameters. -/
def Obligations.ResetMakesNoEvent : Prop :=
  (∀ p : Params, (State.resetWith p).trace = [] ∧ (State.resetWith p).txLine = none ∧
    ∀ k, runs k (State.resetWith p) = .next (State.resetWith p)) ∧
  State.reset = State.resetWith builtParams

/-- 70_reset_and_hazards.md section 1 (R370): the registers with a specified reset value, the tables
and the default parameters. Nothing is said of the unspecified registers (log 6). -/
def Obligations.ResetRegisters : Prop :=
  (∀ p : Params, let s := State.resetWith p
    s.cfgValid = false ∧ s.reqBusy = false ∧ s.txState = .idle ∧ s.txSeq = [] ∧ s.txNsym = 0 ∧
    s.txSym = 0 ∧ s.txRetries = 0 ∧ s.txLine = none ∧ s.rxState = .idle ∧ s.rxK = 0 ∧ s.rxShift = 0 ∧
    s.dspState = .idle ∧ s.csActive = false) ∧
  State.reset.params.tables = defaultTables ∧ State.reset.params.txVariant = .timerWait ∧
  State.reset.params.txInvert = false ∧ State.reset.params.txPull = .noPull ∧
  State.reset.params.rxPull = .pullUp ∧ State.reset.cfgValid = false ∧ State.reset.reqBusy = false

/-- A step runs the decoded instruction: what is on the port, what heads the program when idle, and a
word of the opcode table (10_state.md R31, 30_encoding.md section 4); with nothing to accept it makes
the next event (00_scope.md R10), and an idle block waits (70_reset_and_hazards.md R372,
60_exceptions.md R355). The port, the program and the presentation of table words are the model's
choice (log 3, log 4, log 8, log 9). -/
def Obligations.StepRunsWhatIsPresented : Prop :=
  (∀ (s : State) p i, s.port = some p → p.instr = .ok i → step s = exec i { s with port := none }) ∧
  (∀ (s : State) nbits w i, decodeTableWord nbits w = some i →
    step (s.withFetchWord nbits w) = exec i { s with port := none }) ∧
  (∀ (s : State) p rest i, s.port = none → s.reqBusy = false → s.program = p :: rest → p.instr = .ok i →
    step s = exec i { s with program := rest }) ∧
  (∀ s : State, s.port = none → s.reqBusy = true → step s = event s) ∧
  (∀ s : State, s.port = none → s.reqBusy = false → s.program = [] → step s = .next s)

/-- 00_scope.md section 5 (R10): each environment primitive is one step. A step makes at most one
event, and a step of an active request makes exactly one. The trace only grows. -/
def Obligations.OneEventPerStep : Prop :=
  (∀ s t, step s = .next t → t.trace = s.trace ∨ ∃ e, t.trace = e :: s.trace) ∧
  (∀ s t, s.port = none → s.reqBusy = true → step s = .next t → ∃ e, t.trace = e :: s.trace)

/-! Refusals. -/

/-- 60_exceptions.md R338: every instruction presented while a request is active is refused. -/
def Obligations.RequestWhileBusyRefused : Prop :=
  ∀ (i : Instr) (s : State), s.reqBusy = true → exec i s = .refused .requestWhileBusy

/-- 60_exceptions.md section 3 (R337): ops 0xB..0xF and, on the requests that read the mode, mode
code 3 are refused; every other request record is an instruction. -/
def Obligations.UnassignedRequestsRefused : Prop :=
  (∀ (s : State) (r : Request), s.port = some (.request r) → 0xB ≤ r.op.toNat →
    step s = .refused (.notAnInstruction (.unassignedOp r.op))) ∧
  (∀ (s : State) (r : Request), s.port = some (.request r) → r.op.toNat ∈ [0x1, 0x2, 0x7, 0x8, 0x9] →
    r.mode = 3 → step s = .refused (.notAnInstruction .noSuchMode)) ∧
  (∀ r : Request, r.op.toNat ≤ 0xA → (r.op.toNat ∈ [0x1, 0x2, 0x7, 0x8, 0x9] → r.mode ≠ 3) →
    ∃ i, decode (.request r) = .ok i ∧ WellFormed i = true)

/-! Encoding. -/

/-- Decoding what presents a well-formed instruction gives it back, for every instruction and every
operand. -/
def Obligations.DecodeEncode : Prop := ∀ i : Instr, WellFormed i = true → decode (encode i) = .ok i

/-- Every frame has at most one meaning: a frame that decodes is the encoding of what it decodes to,
which is well-formed. No bit of a frame is dropped. -/
def Obligations.FrameDecodesToItsEncoding : Prop :=
  ∀ (f : Frame) (i : Instr), decode (.frame f) = .ok i → WellFormed i = true ∧ encode i = .frame f

/-- 30_encoding.md R89 and R90, steps 1 to 4: the format of every frame, by its header byte h and its data
byte d; a special header comes before a command header, and in every command format the data byte is
the opcode. -/
def Obligations.FrameFormats : Prop :=
  ∀ f : Frame,
    let h := f.toNat / 256
    let d : Byte := BitVec.ofNat 8 (f.toNat % 256)
    let half : Byte := BitVec.ofNat 8 (h / 2)
    let group : Byte := BitVec.ofNat 8 (h / 2 % 16)
    (h < 0x80 → h % 2 = 0 → decodeFormat f = .arc .slave half d) ∧
    (h < 0x80 → h % 2 = 1 → decodeFormat f = .command .slave half d) ∧
    (0x80 ≤ h → h < 0xA0 → h % 2 = 0 → decodeFormat f = .arc .group group d) ∧
    (0x80 ≤ h → h < 0xA0 → h % 2 = 1 → decodeFormat f = .command .group group d) ∧
    (h ∈ specialOpcodes → decodeFormat f = .special (BitVec.ofNat 8 h) d) ∧
    (h = 0xFE → decodeFormat f = .arc .broadcast 0 d) ∧
    (h = 0xFF → decodeFormat f = .command .broadcast 0 d) ∧
    (0xA0 ≤ h → h ≤ 0xFD → h ∉ specialOpcodes → decodeFormat f = .unassigned (BitVec.ofNat 8 h))

/-- Words written out from the spec decode as it says: a request word by its op (30_encoding.md R100; the
bytes of a record are the model's choice, log 4), five frames of the spec's formats
(30_encoding.md section 1; 40_frame_codec.md section 3), and an unassigned header that is no
instruction (30_encoding.md R90; the refusal is log 20). -/
def Obligations.SpecWordsDecode : Prop :=
  decodeTableWord 8 0b1010 = some (.encSpecial 0 0) ∧
  decodeTableWord 16 0b0000101001100100 = some (.directArcS 5 100) ∧
  decodeTableWord 16 0b1000010010000000 = some (.directArcG 2 128) ∧
  decodeTableWord 16 0b0000101100000101 = some (.recallMaxLevel .slave 5) ∧
  decodeTableWord 16 0b1111111100011111 = some (.goToScene .broadcast 0 15) ∧
  decodeTableWord 16 0b1011011100001011 = some (.programShortAddress 5) ∧
  decodeTableWord 16 0b1010000000000000 = none

/-- 30_encoding.md section 1 (R89): every frame the Dispatcher sends with the default tables is a row
of the opcode table, and the row has the transmit mode of the command. -/
def Obligations.DispatchedFramesAreRows : Prop :=
  (∀ mode command address param tmode f,
    encodeSend defaultTables mode command address param = .ok (tmode, f) →
    ∃ i r, decode (.frame f) = .ok i ∧ rowRequest i = some r ∧ rowMode i = tmode ∧ rowFrame i f = f) ∧
  (∀ mode address brightness f, encodeArc mode address brightness = .ok f →
    ∃ i r, decode (.frame f) = .ok i ∧ rowRequest i = some r ∧ rowFrame i f = f)

/-! The Frame Codec. Every statement gives the whole next state: only the response and the request
state change. -/

/-- 20_memory.md R76: a codec operation answers at once, writes no register and makes no event, and
its response depends only on its operands and the tables; it needs no configuration
(40_frame_codec.md R131). -/
def Obligations.CodecIsPure : Prop :=
  (∀ i s, isCodec i = true → s.reqBusy = false → ∃ r, exec i s = .next (answered r s)) ∧
  (∀ i s s' r, isCodec i = true → s.reqBusy = false → s'.reqBusy = false →
    s.params.tables = s'.params.tables → exec i s = .next (answered r s) →
    exec i s' = .next (answered r s'))

/-- 30_encoding.md R81, R82, R83: the three direct arc formats; an address out of range is
WrongAddress. -/
def Obligations.EncArcFrames : Prop :=
  ∀ (mode : Mode) (address brightness : Byte) (s : State), s.reqBusy = false →
    (addressInRange mode address.toNat →
      exec (.encArc mode address brightness) s =
        .next (answered
          { status := .ok
            value := BitVec.ofNat 16 (headerValue mode address.toNat 0 * 256 + min brightness.toNat 254) } s)) ∧
    (¬ addressInRange mode address.toNat →
      exec (.encArc mode address brightness) s = .next (answered { status := .wrongAddress, value := 0 } s))

/-- 40_frame_codec.md R128 and 30_encoding.md R84 to R86: ENC_CMD in its order of checks, for any
tables. -/
def Obligations.EncCmdFrames : Prop :=
  ∀ (mode : Mode) (address command : Byte) (s : State), s.reqBusy = false →
    (reservedValue command.toNat →
      exec (.encCmd mode address command) s = .next (answered { status := .reservedCommand, value := 0 } s)) ∧
    (¬ reservedValue command.toNat → command ∈ s.params.tables.paramCmds →
      exec (.encCmd mode address command) s = .next (answered { status := .wrongCommand, value := 0 } s)) ∧
    (¬ reservedValue command.toNat → command ∉ s.params.tables.paramCmds → ¬ addressInRange mode address.toNat →
      exec (.encCmd mode address command) s = .next (answered { status := .wrongAddress, value := 0 } s)) ∧
    (¬ reservedValue command.toNat → command ∉ s.params.tables.paramCmds → addressInRange mode address.toNat →
      exec (.encCmd mode address command) s =
        .next (answered
          { status := .ok
            value := BitVec.ofNat 16 (headerValue mode address.toNat 1 * 256 + command.toNat) } s))

/-- 30_encoding.md R94 and 40_frame_codec.md R129: ENC_PARAM in its order of checks, with tables
whose with-parameter opcodes have low nibble 0 (40_frame_codec.md R121): the data byte is the sum of
opcode and parameter. -/
def Obligations.EncParamFrames : Prop :=
  ∀ (mode : Mode) (address command param : Byte) (s : State), s.reqBusy = false →
    (∀ c ∈ s.params.tables.paramCmds, c.toNat % 16 = 0) →
    (command ∉ s.params.tables.paramCmds ∨ 15 < param.toNat →
      exec (.encParam mode address command param) s = .next (answered { status := .wrongCommand, value := 0 } s)) ∧
    (command ∈ s.params.tables.paramCmds → param.toNat ≤ 15 → ¬ addressInRange mode address.toNat →
      exec (.encParam mode address command param) s = .next (answered { status := .wrongAddress, value := 0 } s)) ∧
    (command ∈ s.params.tables.paramCmds → param.toNat ≤ 15 → addressInRange mode address.toNat →
      exec (.encParam mode address command param) s =
        .next (answered
          { status := .ok
            value := BitVec.ofNat 16 (headerValue mode address.toNat 1 * 256 + (command.toNat + param.toNat)) } s))

/-- 40_frame_codec.md section 3.3 and R130: ENC_SPECIAL with the default tables, by data rule. -/
def Obligations.EncSpecialFrames : Prop :=
  ∀ (command data : Byte) (s : State), s.reqBusy = false → s.params.tables = defaultTables →
    (command.toNat ∈ zeroOpcodes →
      exec (.encSpecial command data) s =
        .next (answered { status := .ok, value := BitVec.ofNat 16 (command.toNat * 256) } s)) ∧
    (command.toNat ∈ dataOpcodes →
      exec (.encSpecial command data) s =
        .next (answered { status := .ok, value := BitVec.ofNat 16 (command.toNat * 256 + data.toNat) } s)) ∧
    (command.toNat ∈ addr6Opcodes → data.toNat ≤ 63 →
      exec (.encSpecial command data) s =
        .next (answered { status := .ok, value := BitVec.ofNat 16 (command.toNat * 256 + (2 * data.toNat + 1)) } s)) ∧
    (command.toNat ∈ addr6Opcodes → 63 < data.toNat →
      exec (.encSpecial command data) s = .next (answered { status := .wrongAddress, value := 0 } s)) ∧
    (command.toNat ∉ specialOpcodes →
      exec (.encSpecial command data) s = .next (answered { status := .wrongCommand, value := 0 } s))

/-- 40_frame_codec.md R122 and R123 with the default tables: the class and transmit-mode codes, and
WrongCommand for an opcode in no table. -/
def Obligations.ClassifyAndTmodeCodes : Prop :=
  ∀ (command : Byte) (s : State), s.reqBusy = false → s.params.tables = defaultTables →
    let c := command.toNat
    (c ∈ plainOpcodes ++ paramOpcodes ++ specialOpcodes →
      exec (.classify command) s =
        .next (answered
          { status := .ok, value := if c ∈ plainOpcodes then 0 else if c ∈ paramOpcodes then 1 else 2 } s) ∧
      exec (.tmode command) s =
        .next (answered
          { status := .ok, value := if c ∈ repeatOpcodes then 1 else if c ∈ queryOpcodes then 2 else 0 } s)) ∧
    (c ∉ plainOpcodes ++ paramOpcodes ++ specialOpcodes →
      exec (.classify command) s = .next (answered { status := .wrongCommand, value := 0 } s) ∧
      exec (.tmode command) s = .next (answered { status := .wrongCommand, value := 0 } s))

/-- 40_frame_codec.md R124: for any tables, CLASSIFY and TMODE of an opcode are both OK, with the
class and mode of one entry, or both WrongCommand; and in legal tables no opcode has two entries. -/
def Obligations.ClassifyTmodeConsistent : Prop :=
  (∀ (command : Byte) (s : State), s.reqBusy = false →
    (∃ e ∈ s.params.tables.cmdTable, e.opcode = command ∧
      exec (.classify command) s = .next (answered { status := .ok, value := classCode e.cls } s) ∧
      exec (.tmode command) s = .next (answered { status := .ok, value := tmodeCode e.tmode } s)) ∨
    ((∀ e ∈ s.params.tables.cmdTable, e.opcode ≠ command) ∧
      exec (.classify command) s = .next (answered { status := .wrongCommand, value := 0 } s) ∧
      exec (.tmode command) s = .next (answered { status := .wrongCommand, value := 0 } s))) ∧
  (∀ t : Tables, tablesLegal t = true →
    ∀ e ∈ t.cmdTable, ∀ e' ∈ t.cmdTable, e.opcode = e'.opcode → e = e')

/-- 40_frame_codec.md R121: the default tables meet the constraints. -/
def Obligations.DefaultTablesLegal : Prop := tablesLegal defaultTables = true

/-! SETUP. -/

/-- 43_dispatcher.md R310 and R311: with every operand in range SETUP writes all configuration
registers, makes its three pin events in order and returns OK; otherwise BadConfig, and nothing is
written. -/
def Obligations.SetupConfiguresOrRejects : Prop :=
  ∀ (baud : Word32) (txbits rxbits stop txpin rxpin : Byte) (s : State), s.reqBusy = false →
    let legal := (1 ≤ baud.toNat ∧ baud.toNat ≤ 500000) ∧ (1 ≤ txbits.toNat ∧ txbits.toNat ≤ 16) ∧
      (1 ≤ rxbits.toNat ∧ rxbits.toNat ≤ 16) ∧ (stop.toNat = 1 ∨ stop.toNat = 2) ∧
      txpin.toNat < s.params.numPins ∧ rxpin.toNat < s.params.numPins
    (legal → ∃ t, exec (.setup baud txbits rxbits stop txpin rxpin) s = .next t ∧
      t.trace = .setPinMode txpin .output s.params.txPull :: s.trace ∧
      (s.port = none → runs 2 t = .next
        { answered { status := .ok, value := 0 } s with
          cfgBaud := baud, cfgTxbits := txbits, cfgRxbits := rxbits, cfgStop := stop
          cfgTxpin := txpin, cfgRxpin := rxpin, cfgValid := true, txLine := some .high
          trace := .setPinMode rxpin .input s.params.rxPull ::
            .writePin txpin (pinLevel s.params.txInvert .high) ::
            .setPinMode txpin .output s.params.txPull :: s.trace })) ∧
    (¬ legal →
      exec (.setup baud txbits rxbits stop txpin rxpin) s =
        .next (answered { status := .badConfig, value := 0 } s))

/-- 43_dispatcher.md R312 and 10_state.md R29: a step that runs no SETUP changes no configuration
register; one that does changes them only to its operands; nothing clears `CFG_VALID`. That no
step changes a parameter is the model's choice of where parameters stand (00_scope.md R6; log 5). -/
def Obligations.ConfigurationWrittenOnlyBySetup : Prop :=
  ∀ s t : State, step s = .next t →
    t.params = s.params ∧ (s.cfgValid = true → t.cfgValid = true) ∧
    ((t.cfgBaud = s.cfgBaud ∧ t.cfgTxbits = s.cfgTxbits ∧ t.cfgRxbits = s.cfgRxbits ∧ t.cfgStop = s.cfgStop ∧
        t.cfgTxpin = s.cfgTxpin ∧ t.cfgRxpin = s.cfgRxpin ∧ t.cfgValid = s.cfgValid) ∨
      ∃ p s', fetch s = some (p, s') ∧
        p.instr = .ok (.setup t.cfgBaud t.cfgTxbits t.cfgRxbits t.cfgStop t.cfgTxpin t.cfgRxpin) ∧
        t.cfgValid = true)

/-- 10_state.md R30: whenever `CFG_VALID` is 1 every configuration register holds a legal value, at reset
and after every step from a state in which it does. -/
def Obligations.LegalConfigurationInvariant : Prop :=
  let legal (s : State) : Prop := s.cfgValid = true →
    (1 ≤ s.cfgBaud.toNat ∧ s.cfgBaud.toNat ≤ 500000) ∧ (1 ≤ s.cfgTxbits.toNat ∧ s.cfgTxbits.toNat ≤ 16) ∧
    (1 ≤ s.cfgRxbits.toNat ∧ s.cfgRxbits.toNat ≤ 16) ∧ (s.cfgStop.toNat = 1 ∨ s.cfgStop.toNat = 2) ∧
    s.cfgTxpin.toNat < s.params.numPins ∧ s.cfgRxpin.toNat < s.params.numPins
  (∀ p : Params, legal (State.resetWith p)) ∧ ∀ s t : State, legal s → step s = .next t → legal t

/-! Requests that transmit. -/

/-- A frame row has the effect of its request (log 3: the model's choice). -/
def Obligations.RowsAreRequests : Prop :=
  ∀ (i r : Instr) (s : State), rowRequest i = some r → exec i s = exec r s

/-- 60_exceptions.md R336 and R345: before SETUP, RECEIVE and, in the TimerWait variant, the transmitting
requests return NotConfigured with no event; in the BusyDelay variant the transmitting ones make the
`IntDisableSave` and `IntRestore` pair and nothing else, and `CS_TOKEN` is as before the request
(60_exceptions.md R335; how it goes back is log 15). That a frame row is one of these requests is the
model's choice (log 3). -/
def Obligations.NotConfiguredBeforeSetup : Prop :=
  ∀ s : State, Idle s → s.cfgValid = false →
    exec .receive s = .next (answered { status := .notConfigured, value := 0 } s) ∧
    ∀ i : Instr, ((∃ v, i = .transmit v) ∨ (∃ m a b, i = .arc m a b) ∨ (∃ m c a p, i = .send m c a p) ∨
        (rowRequest i).isSome = true) →
      (s.params.txVariant = .timerWait → exec i s = .next (failed .notConfigured s)) ∧
      (s.params.txVariant = .busyDelay → ∃ t, exec i s = .next t ∧
        t.trace = .intDisableSave (drawToken s.env).1 :: s.trace ∧
        (s.port = none → runs 1 t = .next (failedInGuard .notConfigured s)))

/-- 41_line_encoder.md section 7 (R235), TimerWait: TRANSMIT loads the transmitter for the value,
whatever it means, and writes the first start symbol. -/
def Obligations.TransmitStarts : Prop :=
  ∀ (value : BitVec 16) (s : State), Ready s → s.params.txVariant = .timerWait →
    exec (.transmit value) s = .next (firstSymbolSent value s)

/-- 43_dispatcher.md section 2 (R298), TimerWait: ARC encodes its frame and starts sending it once, or
fails with WrongAddress and no event. -/
def Obligations.ArcStartsOrFails : Prop :=
  ∀ (mode : Mode) (address brightness : Byte) (s : State), Ready s → s.params.txVariant = .timerWait →
    (addressInRange mode address.toNat →
      let f : Frame := BitVec.ofNat 16 (headerValue mode address.toNat 0 * 256 + min brightness.toNat 254)
      exec (.arc mode address brightness) s =
        .next { dispatched .simple f (firstSymbolSent f s) with dspState := .tx1 }) ∧
    (¬ addressInRange mode address.toNat →
      exec (.arc mode address brightness) s = .next (failed .wrongAddress s))

/-- 43_dispatcher.md section 2 (R291 to R293), TimerWait, any tables: SEND fails with the first error of
classification and encoding and no event, or starts sending the encoded frame with the command's
transmit mode. -/
def Obligations.SendStartsOrFails : Prop :=
  ∀ (mode : Mode) (command address param : Byte) (s : State), Ready s → s.params.txVariant = .timerWait →
    (∀ st, encodeSend s.params.tables mode command address param = .error st →
      exec (.send mode command address param) s = .next (failed st s)) ∧
    (∀ tmode f, encodeSend s.params.tables mode command address param = .ok (tmode, f) →
      exec (.send mode command address param) s =
        .next { dispatched tmode f (firstSymbolSent f s) with dspState := .tx1 })

/-- 60_exceptions.md section 2 (R334) with the default tables, TimerWait: which error SEND reports. -/
def Obligations.SendErrorOrder : Prop :=
  ∀ (mode : Mode) (command address param : Byte) (s : State), Ready s → s.params.txVariant = .timerWait →
    s.params.tables = defaultTables →
    let c := command.toNat
    (c ∉ plainOpcodes ++ paramOpcodes ++ specialOpcodes →
      exec (.send mode command address param) s = .next (failed .wrongCommand s)) ∧
    (c ∈ paramOpcodes → 15 < param.toNat →
      exec (.send mode command address param) s = .next (failed .wrongCommand s)) ∧
    (c ∈ plainOpcodes ∨ c ∈ paramOpcodes ∧ param.toNat ≤ 15 → ¬ addressInRange mode address.toNat →
      exec (.send mode command address param) s = .next (failed .wrongAddress s)) ∧
    (c ∈ addr6Opcodes → 63 < param.toNat →
      exec (.send mode command address param) s = .next (failed .wrongAddress s))

/-- 40_frame_codec.md section 3 and 30_encoding.md section 1, TimerWait, default tables: every
well-formed frame row starts sending the frame that presents it (a direct arc level of 255 as 254),
with the row's transmit mode. The reading of a frame row as a request is the model's choice (log 3). -/
def Obligations.FrameRowsStart : Prop :=
  ∀ (i r : Instr) (f : Frame) (s : State), rowRequest i = some r → WellFormed i = true →
    encode i = .frame f → Ready s → s.params.txVariant = .timerWait → s.params.tables = defaultTables →
    exec i s = .next
      { dispatched (rowMode i) (rowFrame i f) (firstSymbolSent (rowFrame i f) s) with dspState := .tx1 }

/-- 41_line_encoder.md R222, R223, R224, R225: the symbol sequence a TRANSMIT loads, symbol by symbol, in
both transmitter variants. -/
def Obligations.SymbolSequence : Prop :=
  ∀ (value : BitVec 16) (s : State), Ready s →
    let n := s.cfgTxbits.toNat
    let k := s.cfgStop.toNat
    ∃ t, exec (.transmit value) s = .next t ∧
      t.txSeq.length = 2 + 2 * n + 2 * k ∧
      t.txSeq[0]? = some .high ∧ t.txSeq[1]? = some .low ∧
      (∀ j, j < n →
        t.txSeq[2 + 2 * j]? = some (if value.getLsbD (n - 1 - j) then .high else .low) ∧
        t.txSeq[3 + 2 * j]? = some (if value.getLsbD (n - 1 - j) then .low else .high)) ∧
      (∀ j, 2 + 2 * n ≤ j → j < 2 + 2 * n + 2 * k → t.txSeq[j]? = some .high)

/-- 41_line_encoder.md R220: in every coherent state in which a
transmission is active the half-bit period is the quotient, between 1 and 500000. -/
def Obligations.HalfBitPeriod : Prop :=
  ∀ s : State, Coherent s → transmitting s.ctl = true →
    s.txHb.toNat = 500000 / s.cfgBaud.toNat ∧ 1 ≤ s.txHb.toNat ∧ s.txHb.toNat ≤ 500000

/-! The timer wait. -/

/-- 41_line_encoder.md section 4 and 5 (R226, R229 to R231): a poll of the timer in a coherent state.
A value below the start read is a wrap, tested first: the attempt is aborted with no pin write, into
TransmissionFailed at the bound and else into the retry pause. A value at or above start plus period
ends the wait: the next symbol is due, or the settle. Any other value leaves the wait as it is. That
`TX_SYM` and `TX_STATE` advance with the poll, one event before the symbol is written, is the model's
choice (log 2). -/
def Obligations.SymbolPoll : Prop :=
  ∀ s : State, Coherent s → s.ctl = .txPoll →
    let t := (drawNow s.env).1.toNat % 2 ^ 31
    let polled := { s with env := (drawNow s.env).2, trace := .now (drawNow s.env).1 :: s.trace }
    (t < s.txWstart.toNat → s.params.maxRetries = some s.txRetries →
      event s = .next { failed .transmissionFailed polled with txState := .idle }) ∧
    (t < s.txWstart.toNat → s.params.maxRetries ≠ some s.txRetries →
      event s = .next { polled with txRetries := s.txRetries + 1, txState := .retry, ctl := .txPause }) ∧
    (s.txWstart.toNat + s.txHb.toNat ≤ t → s.txSym.toNat + 1 < s.txNsym.toNat →
      event s = .next { polled with
        txSym := s.txSym + 1, txState := txPhase s.cfgTxbits.toNat (s.txSym.toNat + 1), ctl := .txWrite }) ∧
    (s.txWstart.toNat + s.txHb.toNat ≤ t → s.txSym.toNat + 1 = s.txNsym.toNat →
      event s = .next { polled with txState := .settle, ctl := .txSettle }) ∧
    (s.txWstart.toNat ≤ t → t < s.txWstart.toNat + s.txHb.toNat → event s = .next polled)

/-- 41_line_encoder.md R230 and R232: after a wrap the pause is `DelayUs(5 * TX_HB)`, no pin is
written in it, and the same value is sent again from the first start symbol with the same period. That
`TX_SYM` is 0 and `TX_STATE` is Start with the pause, before symbol 0 is written, is the model's choice
(log 2). -/
def Obligations.RetryRestartsTheFrame : Prop :=
  ∀ s : State, Coherent s → s.ctl = .txPause →
    event s = .next { s with
      txSym := 0, txState := .start, ctl := .txWrite, trace := .delayUs (5 * s.txHb.toNat) :: s.trace }

/-- 41_line_encoder.md R227, 70_reset_and_hazards.md R387: while the timer keeps returning the value of
the start read, the wait goes on and the request stays active. -/
def Obligations.StuckTimerNeverEndsTheWait : Prop :=
  ∀ (s : State) (k : Nat) (w : Word32) (rest : List Word32), Coherent s → s.ctl = .txPoll → s.port = none →
    s.env.nows = List.replicate k w ++ rest → mask31 w = s.txWstart →
    runs k s = .next { s with
      env := { s.env with nows := rest, drawn := s.env.drawn + k }
      trace := List.replicate k (.now w) ++ s.trace }

/-- 41_line_encoder.md R227: a wait whose target exceeds 0x7FFFFFFF ends only by a wrap. -/
def Obligations.UnreachableTargetEndsOnlyByWrap : Prop :=
  ∀ s t : State, Coherent s → s.ctl = .txPoll → 0x7FFFFFFF < s.txWstart.toNat + s.txHb.toNat →
    event s = .next t →
    (drawNow s.env).1.toNat % 2 ^ 31 < s.txWstart.toNat ∨
      t.ctl = .txPoll ∧ t.txSym = s.txSym ∧ t.txLine = s.txLine

/-! Whole transmissions. -/

/-- 41_line_encoder.md section 5 and 70_reset_and_hazards.md section 4 (R228, R233, R236), TimerWait: with
a timer that moves one half-bit period per wait and does not wrap, TRANSMIT writes exactly the
symbols of the value, two timer reads each, then the settle, and returns OK with the line High; the
whole state is given. -/
def Obligations.IdealTransmission : Prop :=
  ∀ (value : BitVec 16) (s : State) (times : List Nat) (rest : List Word32),
    Ready s → s.params.txVariant = .timerWait → s.port = none →
    let hb := 500000 / s.cfgBaud.toNat
    times.length = 2 + 2 * s.cfgTxbits.toNat + 2 * s.cfgStop.toNat → validTimes hb times →
    s.env.nows = idealNows hb times ++ rest →
    ∃ t, exec (.transmit value) s = .next t ∧
      runs (3 * times.length) t = .next
        { transmitted value (idealAttempt s hb times (symbolsOf value s)) s with
          txWstart := BitVec.ofNat 31 (times.getLastD 0)
          env := { s.env with nows := rest, drawn := s.env.drawn + 2 * times.length } }

/-- 41_line_encoder.md R234 and 43_dispatcher.md R296, BusyDelay: TRANSMIT disables interrupts, writes
each symbol of the value followed by `DelayUs(TX_HB)`, settles, restores interrupts and returns OK;
no timer is read; the whole state is given. -/
def Obligations.BusyTransmission : Prop :=
  ∀ (value : BitVec 16) (s : State), Ready s → s.params.txVariant = .busyDelay → s.port = none →
    let token := (drawToken s.env).1
    let events := busyAttempt s (500000 / s.cfgBaud.toNat) (symbolsOf value s)
    ∃ t, exec (.transmit value) s = .next t ∧ t.trace = .intDisableSave token :: s.trace ∧
      runs (events.length + 1) t = .next
        { transmitted value ([.intDisableSave token] ++ events ++ [.intRestore token]) s with
          csToken := token, env := (drawToken s.env).2 }

/-- 43_dispatcher.md R294, R295, R297, R300, BusyDelay: a SEND that encodes, and an ARC, send the frame
once, or exactly twice with one `DelayUs(9000)` between when the command is M_REPEAT, and return OK;
the whole state is given. -/
def Obligations.BusyDispatch : Prop :=
  ∀ (i : Instr) (tmode : TxMode) (f : Frame) (s : State),
    Ready s → s.params.txVariant = .busyDelay → s.port = none →
    ((∃ mode command address param, i = .send mode command address param ∧
        encodeSend s.params.tables mode command address param = .ok (tmode, f)) ∨
      (∃ mode address brightness, i = .arc mode address brightness ∧ tmode = .simple ∧
        encodeArc mode address brightness = .ok f)) →
    let token := (drawToken s.env).1
    let events := busyDispatch s tmode f
    ∃ t, exec i s = .next t ∧ t.trace = .intDisableSave token :: s.trace ∧
      runs (events.length + 1) t = .next
        { dispatched tmode f (transmitted f ([.intDisableSave token] ++ events ++ [.intRestore token]) s) with
          csToken := token, env := (drawToken s.env).2 }

/-- 43_dispatcher.md R294, R295, R297, R300, TimerWait: a SEND that encodes, and an ARC, under the ideal
timer send the frame once, or exactly twice with one `DelayUs(9000)` between when the command is
M_REPEAT, and return OK. -/
def Obligations.IdealDispatch : Prop :=
  ∀ (i : Instr) (tmode : TxMode) (f : Frame) (s : State) (times times' : List Nat) (rest : List Word32),
    Ready s → s.params.txVariant = .timerWait → s.port = none →
    ((∃ mode command address param, i = .send mode command address param ∧
        encodeSend s.params.tables mode command address param = .ok (tmode, f)) ∨
      (∃ mode address brightness, i = .arc mode address brightness ∧ tmode = .simple ∧
        encodeArc mode address brightness = .ok f)) →
    let hb := 500000 / s.cfgBaud.toNat
    let n := 2 + 2 * s.cfgTxbits.toNat + 2 * s.cfgStop.toNat
    times.length = n → validTimes hb times → times'.length = n → validTimes hb times' →
    s.env.nows = idealNows hb times ++ (if tmode = .repeatTwice then idealNows hb times' else []) ++ rest →
    let once := idealAttempt s hb times (symbolsOf f s)
    let events := if tmode = .repeatTwice then
      once ++ [.delayUs 9000] ++ idealAttempt s hb times' (symbolsOf f s) else once
    ∃ t u, exec i s = .next t ∧ runs (events.length - 1) t = .next u ∧
      u.response = some { status := .ok, value := 0 } ∧ u.reqBusy = false ∧ u.trace = events.reverse ++ s.trace ∧
      u.txLine = some .high ∧ u.txState = .idle ∧ u.dspState = .idle ∧ u.dspFrame = f ∧ u.dspTmode = tmode ∧
      u.env.nows = rest

/-- 40_frame_codec.md section 3, BusyDelay, default tables: every well-formed frame row sends the frame
that presents it (a direct arc level of 255 as 254), twice exactly for the M_REPEAT rows, and returns
OK; the whole state is given. The reading of a frame row as a request is the model's choice (log 3). -/
def Obligations.FrameRowsRun : Prop :=
  ∀ (i r : Instr) (f : Frame) (s : State), rowRequest i = some r → WellFormed i = true →
    encode i = .frame f → Ready s → s.params.txVariant = .busyDelay → s.params.tables = defaultTables →
    s.port = none →
    let token := (drawToken s.env).1
    let sent := rowFrame i f
    let events := busyDispatch s (rowMode i) sent
    ∃ t, exec i s = .next t ∧ runs (events.length + 1) t = .next
      { dispatched (rowMode i) sent
          (transmitted sent ([.intDisableSave token] ++ events ++ [.intRestore token]) s) with
        csToken := token, env := (drawToken s.env).2 }

/-! The critical section. -/

/-- 43_dispatcher.md R296 and 60_exceptions.md R340: a coherent state that holds interrupts disabled
keeps holding them with the same token, or the step restores that token and gives the response; after
an OK response the token stays in `CS_TOKEN`. -/
def Obligations.GuardRestoredOnEveryExit : Prop :=
  ∀ s t : State, Coherent s → s.csActive = true → step s = .next t →
    t.csActive = true ∧ t.reqBusy = true ∧ t.csToken = s.csToken ∨
      t.csActive = false ∧ t.reqBusy = false ∧ t.trace = .intRestore s.csToken :: s.trace ∧
        ∃ r, t.response = some r ∧ (r.status = .ok → t.csToken = s.csToken)

/-- 43_dispatcher.md R296 and 60_exceptions.md R335, BusyDelay: an error of SEND or ARC still makes the
`IntDisableSave` and `IntRestore` pair, and nothing between them; every register but the request state
is then as before the request. That `CS_TOKEN` goes back with the restore is how the model meets both
rules (log 15). -/
def Obligations.GuardClosesOnErrors : Prop :=
  ∀ (i : Instr) (st : Status) (s : State), Ready s → s.params.txVariant = .busyDelay → s.port = none →
    ((∃ mode command address param, i = .send mode command address param ∧
        encodeSend s.params.tables mode command address param = .error st) ∨
      (∃ mode address brightness, i = .arc mode address brightness ∧
        encodeArc mode address brightness = .error st)) →
    let token := (drawToken s.env).1
    ∃ t, exec i s = .next t ∧ t.csActive = true ∧
      t.csToken = token ∧ runs 1 t = .next (failedInGuard st s)

/-! The Line Receiver. -/

/-- 42_line_receiver.md section 1 and 3 (R261, R272): RECEIVE reads the call time and enters the edge
wait. -/
def Obligations.ReceiveStarts : Prop :=
  ∀ s : State, Ready s →
    exec .receive s = .next { s with
      reqBusy := true, response := none, rxState := .edgeWait, ctl := .rxFirst
      rxTcall := mask31 (drawNow s.env).1
      env := (drawNow s.env).2, trace := .now (drawNow s.env).1 :: s.trace }

/-- 42_line_receiver.md R269 and R270: a poll of the edge wait ends in ReceiveTimeout with value 0xFFFF
on a wrap or when the timeout has passed, with no pin read, and else reads the pin next. -/
def Obligations.EdgeWaitTimeout : Prop :=
  ∀ s : State, s.ctl = .rxPoll →
    let t := (drawNow s.env).1.toNat % 2 ^ 31
    let polled := { s with env := (drawNow s.env).2, trace := .now (drawNow s.env).1 :: s.trace }
    (t < s.rxTcall.toNat ∨ s.rxTcall.toNat + s.params.rxTimeoutUs ≤ t →
      event s = .next { answered { status := .receiveTimeout, value := 0xFFFF } polled with rxState := .idle }) ∧
    (s.rxTcall.toNat ≤ t → t < s.rxTcall.toNat + s.params.rxTimeoutUs →
      event s = .next { polled with ctl := .rxEdge (mask31 (drawNow s.env).1) })

/-- 42_line_receiver.md R263: the first poll that reads Low after a poll that read High is the falling
edge, at the timer value read in that poll; any other pin value is remembered and the wait goes on. -/
def Obligations.FallingEdgeStartsTheWindows : Prop :=
  ∀ (s : State) (t : Time31), Coherent s → s.ctl = .rxEdge t →
    let l := (drawPin s.env).1
    let read := { s with env := (drawPin s.env).2, trace := .readPin s.cfgRxpin l :: s.trace }
    (s.rxPrev = .high → l = .low →
      event s = .next { read with
        rxTedge := t, rxShift := 0, rxK := 0, rxState := .sample, ctl := .rxWaitA }) ∧
    (s.rxPrev = .low ∨ l = .high → event s = .next { read with rxPrev := l, ctl := .rxPoll })

/-- 42_line_receiver.md R264, R265, R269: a sample of window k waits until
`RX_TEDGE + (RX_LEAD + k) * hb + floor(hb / 4)`, or `floor(3 * hb / 4)` for the second; a timer value below
`RX_TEDGE` is a Wrap. A Wrap of the first sample goes on to the second one, as the pseudocode of R261
says (log 14), and a Wrap of the second one ends the request with ReceiveTimeout. Stated where the
32-bit sum does not wrap, which the model's choice for a very large `RX_LEAD` needs (log 18). -/
def Obligations.SamplePoint : Prop :=
  ∀ s : State, Coherent s →
    let hb := 500000 / s.cfgBaud.toNat
    let window := s.rxTedge.toNat + (s.params.rxLead + s.rxK.toNat) * hb
    let t := (drawNow s.env).1.toNat % 2 ^ 31
    let polled := { s with env := (drawNow s.env).2, trace := .now (drawNow s.env).1 :: s.trace }
    (s.ctl = .rxWaitA → window + hb / 4 < 2 ^ 32 →
      (t < s.rxTedge.toNat → event s = .next { polled with ctl := .rxWaitB none }) ∧
      (s.rxTedge.toNat ≤ t → window + hb / 4 ≤ t → event s = .next { polled with ctl := .rxReadA }) ∧
      (s.rxTedge.toNat ≤ t → t < window + hb / 4 → event s = .next polled)) ∧
    (∀ a, s.ctl = .rxWaitB a → window + 3 * hb / 4 < 2 ^ 32 →
      (t < s.rxTedge.toNat →
        event s = .next { answered { status := .receiveTimeout, value := 0xFFFF } polled with rxState := .idle }) ∧
      (s.rxTedge.toNat ≤ t → window + 3 * hb / 4 ≤ t → event s = .next { polled with ctl := .rxReadB a }) ∧
      (s.rxTedge.toNat ≤ t → t < window + 3 * hb / 4 → event s = .next polled))

/-- 42_line_receiver.md R266, R267, R268: the judgement of a window by its two samples a and b. Different
samples, or a Low stop window, restart the edge wait; a data window shifts its level in at bit 0; a
window that is not the last goes on to the next one; the last stop window returns OK with the
uninterpreted `RX_DECODE`. After a Wrap of the first sample the second one ends the request with
ReceiveTimeout, whatever it reads (42_line_receiver.md R261; log 14). -/
def Obligations.WindowJudged : Prop :=
  ∀ s : State, Coherent s →
    let b := (drawPin s.env).1
    let n := 2 * s.cfgRxbits.toNat
    let w := n + 2 * s.cfgStop.toNat
    let read := { s with env := (drawPin s.env).2, trace := .readPin s.cfgRxpin b :: s.trace }
    (s.ctl = .rxReadB none →
      event s = .next { answered { status := .receiveTimeout, value := 0xFFFF } read with rxState := .idle }) ∧
    ∀ a, s.ctl = .rxReadB (some a) →
    (a ≠ b ∨ a = .low ∧ n ≤ s.rxK.toNat → event s = .next { read with rxState := .edgeWait, ctl := .rxFirst }) ∧
    (a = b → s.rxK.toNat < n →
      event s = .next { read with
        rxShift := BitVec.ofNat 32 (2 * s.rxShift.toNat + (if a = .high then 1 else 0))
        rxK := s.rxK + 1, rxState := if s.rxK.toNat + 1 < n then .sample else .stopCheck, ctl := .rxWaitA }) ∧
    (a = b → a = .high → n ≤ s.rxK.toNat → s.rxK.toNat + 1 < w →
      event s = .next { read with rxK := s.rxK + 1, rxState := .stopCheck, ctl := .rxWaitA }) ∧
    (a = b → a = .high → n ≤ s.rxK.toNat → s.rxK.toNat + 1 = w →
      event s = .next { answered
        { status := .ok, value := Config.rxDecode s.rxShift s.cfgRxbits.toNat } read with rxState := .idle })

/-- 42_line_receiver.md section 2 (R264 to R267, R271): a RECEIVE of a clean frame. The line reads High
and then Low at one poll, and every window reads the same level at both of its sample points, the
stop windows High; then the request returns OK with `RX_DECODE` of the data symbols, first symbol
uppermost. -/
def Obligations.ReceiveCollectsSymbols : Prop :=
  ∀ (s : State) (levels : List Level) (tcall tedge : Nat), Ready s → s.port = none →
    let hb := 500000 / s.cfgBaud.toNat
    let n := 2 * s.cfgRxbits.toNat
    let w := n + 2 * s.cfgStop.toNat
    let start (k : Nat) := tedge + (s.params.rxLead + k) * hb
    levels.length = w → levels.drop n = List.replicate (2 * s.cfgStop.toNat) .high →
    tcall ≤ tedge → tedge - tcall < s.params.rxTimeoutUs → start w < 2 ^ 31 →
    s.env.nows = BitVec.ofNat 32 tcall :: BitVec.ofNat 32 tedge ::
      (List.range w).flatMap (fun k => [BitVec.ofNat 32 (start k + hb / 4), BitVec.ofNat 32 (start k + 3 * hb / 4)]) →
    s.env.pins = .high :: .low :: levels.flatMap (fun l => [l, l]) →
    let shift := (levels.take n).foldl (fun v l => 2 * v + (if l = .high then 1 else 0)) 0
    ∃ t u, exec .receive s = .next t ∧ runs (3 + 4 * w) t = .next u ∧
      u.response = some { status := .ok, value := Config.rxDecode (BitVec.ofNat 32 shift) s.cfgRxbits.toNat } ∧
      u.reqBusy = false ∧ u.rxState = .idle ∧ u.rxShift = BitVec.ofNat 32 shift ∧ u.rxK = BitVec.ofNat 6 (w - 1) ∧
      u.rxTcall = BitVec.ofNat 31 tcall ∧ u.rxTedge = BitVec.ofNat 31 tedge ∧
      u.txLine = s.txLine ∧ u.csActive = false ∧ u.env.nows = [] ∧ u.env.pins = []

/-! Whole-machine rules. -/

/-- The coherence of the registers holds at reset, for all parameters. -/
def Obligations.CoherentAtReset : Prop :=
  (∀ p : Params, Coherent (State.resetWith p)) ∧ Coherent State.reset

/-- Every step keeps the coherence of the registers, from every coherent state (10_state.md R30, R33,
R43; 30_encoding.md R101), as the model holds them between two events (log 2). -/
def Obligations.StepKeepsCoherent : Prop :=
  ∀ s t : State, Coherent s → step s = .next t → Coherent t

/-- A step of a coherent state never ends in a fault. -/
def Obligations.CoherentNeverFaults : Prop :=
  ∀ (s : State) (why : Fault), Coherent s → step s ≠ .fault why

/-- 60_exceptions.md sections 7 and 8 (R349 to R352): the event of a step from a coherent state stays
inside the block's contract with its environment. The timer is read only in the symbol wait of the
TimerWait variant, in the edge wait, in a sample wait, and for the call time of RECEIVE. -/
def Obligations.EventsStayInContract : Prop :=
  ∀ (s t : State) (e : Event), Coherent s → step s = .next t → t.trace = e :: s.trace →
    match e with
    | .setPinMode pin dir pull =>
      settingUp t.ctl = true ∧ pin = t.cfgTxpin ∧ dir = .output ∧ pull = s.params.txPull ∨
        s.ctl = .setupRxMode ∧ pin = s.cfgRxpin ∧ dir = .input ∧ pull = s.params.rxPull
    | .writePin pin level => pin = s.cfgTxpin ∧ t.txLine = some (pinLevel s.params.txInvert level)
    | .readPin pin _ => pin = s.cfgRxpin ∧ (waitingForEdge s.ctl = true ∨ sampling s.ctl = true)
    | .now _ =>
      s.params.txVariant = .timerWait ∧ (s.ctl = .txStart ∨ s.ctl = .txPoll) ∨
        s.ctl = .rxPoll ∨ s.ctl = .rxWaitA ∨ (∃ a, s.ctl = .rxWaitB a) ∨
        (s.ctl = .idle ∨ s.ctl = .rxCall) ∧ t.ctl = .rxFirst ∧ t.rxState = .edgeWait
    | .delayUs n =>
      (n = 9000 ∨ n = s.txHb.toNat ∨ n = 5 * s.txHb.toNat ∨ n = 6 * s.txHb.toNat) ∧ n ≤ 3000000
    | .intDisableSave token => s.params.txVariant = .busyDelay ∧ t.csToken = token ∧ s.csActive = false
    | .intRestore token => s.params.txVariant = .busyDelay ∧ token = s.csToken ∧ s.csActive = true

/-- 42_line_receiver.md R273: the receiver and the transmitter never run at once. -/
def Obligations.ReceiverAndTransmitterExclude : Prop :=
  ∀ s t : State, Coherent s → step s = .next t → t.rxState = .idle ∨ t.txState = .idle ∧ t.dspState = .idle

/-- 41_line_encoder.md R231: a response TransmissionFailed is given only by a transmission whose retries
have reached the bound of `MAX_RETRIES`; with no bound it is never given. -/
def Obligations.TransmissionFailedOnlyAtTheBound : Prop :=
  ∀ (s t : State) (r : Response), Coherent s → s.response = none → step s = .next t → t.response = some r →
    r.status = .transmissionFailed →
    s.params.maxRetries = some s.txRetries ∧ s.params.txVariant = .timerWait ∧ s.ctl = .txPoll ∧
      t.txLine = s.txLine ∧ t.txRetries = s.txRetries

/-! Requests as they are written. -/

/-- 30_encoding.md R105: the expansion of the binding-level calls, with the default tables. -/
def Obligations.BindingCallsExpand : Prop :=
  (∀ tx rx, BindingCall.expand defaultTables (.setup tx rx) = .setup 1200 16 8 2 tx rx) ∧
  (∀ m a b, BindingCall.expand defaultTables (.arc m a b) = .arc m a b) ∧
  (∀ m (c : Byte) x, m ≠ .broadcast → c.toNat ∉ specialOpcodes →
    BindingCall.expand defaultTables (.send m c x) = .send m c x 0) ∧
  (∀ m (c : Byte) x, m = .broadcast ∨ c.toNat ∈ specialOpcodes →
    BindingCall.expand defaultTables (.send m c x) = .send m c 0 x)
end

