-- ==== Sys2Proof/Laws/Decode.lean ====
section
/-! SUPPORT. The small lemmas of frame layout: a frame's bytes, header bits, parameter and payload bits. -/

namespace Sys2Proof

/-- Bit `i` of a frame: of the data byte below bit 8, of the header above. -/
theorem mkFrame_bit (h d : Byte) (i : Nat) :
    (mkFrame h d).getLsbD i = if i < 8 then d.getLsbD i else h.getLsbD (i - 8) :=
  BitVec.getLsbD_append

@[simp] theorem frameHeader_mkFrame (h d : Byte) : frameHeader (mkFrame h d) = h := by
  apply BitVec.eq_of_getLsbD_eq
  intro i hi
  simp [frameHeader, mkFrame_bit, hi]

@[simp] theorem frameData_mkFrame (h d : Byte) : frameData (mkFrame h d) = d := by
  apply BitVec.eq_of_getLsbD_eq
  intro i hi
  simp [frameData, mkFrame_bit, hi]

/-- A frame is its header and data bytes. -/
theorem mkFrame_bytes (f : Frame) : mkFrame (frameHeader f) (frameData f) = f := by
  apply BitVec.eq_of_getLsbD_eq
  intro i hi
  rw [mkFrame_bit]
  split
  · simp [frameData, *]
  · have h8 : 8 + (i - 8) = i := by omega
    have h16 : i - 8 < 8 := by omega
    simp [frameHeader, h8, h16]

/-- `frame[8]` is bit 0 of the header (30_encoding.md R80). -/
theorem mkFrame_selector (h d : Byte) : (mkFrame h d).getLsbD 8 = h.getLsbD 0 :=
  mkFrame_bit h d 8

theorem byte_and_ff (v : Byte) : v &&& 0xFF = v := by
  revert v; decide

theorem byte_and_zero (v : Byte) : v &&& 0x00 = 0x00 := by
  simp

/-- A command header has its selector bit set (30_encoding.md R80). -/
theorem headerByte_selector (mode : Mode) (a : Byte) : headerByte mode a true &&& 0x01 = 0x01 := by
  cases mode <;> revert a <;> decide

theorem slave_arc_header (a : Byte) : headerByte .slave a false &&& 0x81 = 0x00 := by
  revert a; decide

theorem group_arc_header (a : Byte) : headerByte .group a false &&& 0xE1 = 0x80 := by
  revert a; decide

/-- A parameter in range leaves the opcode's bits alone (30_encoding.md R94). -/
theorem paramByte_opcode (c p : Byte) (hc : c &&& 0xF0 = c) (hp : p.toNat ≤ 15) :
    (c ||| p) &&& 0xF0 = c := by
  have h0 : ∀ q : Byte, q.toNat ≤ 15 → q &&& 0xF0 = 0x00 := by decide
  rw [BitVec.and_comm, BitVec.and_or_distrib_left, BitVec.and_comm _ c, BitVec.and_comm _ p, hc, h0 p hp]
  simp

/-- The fixed bits of an Addr6 data byte (30_encoding.md R95). -/
theorem addr6_fixed (d : Byte) : specialData .addr6 d &&& 0x81 = 0x01 := by
  revert d; decide

/-- A Zero data byte is 0 whatever the operand (40_frame_codec.md R130). -/
theorem zero_fixed (d : Byte) : specialData .zero d &&& 0xFF = 0x00 := by
  decide +revert

theorem wellFormed_param {mode : Mode} {a p : Byte}
    (h : (mode.encodable a && decide (p.toNat ≤ 15)) = true) : p.toNat ≤ 15 := by
  simp at h; exact h.2

/-- What the reader presents for a word is the instruction the word decodes to. -/
@[simp] theorem present_instr (w : TableWord) : (present w).instr = decode w := by
  cases w with
  | request r => rfl
  | frame f =>
    simp only [present]
    split <;> rename_i h <;> simp [Presented.instr, h]

end Sys2Proof
end

