-- ==== Sys2Proof/Laws/Operands.lean ====
section
/-! SUPPORT. The small lemmas of operand assembly, the codec, the symbol sequence and the polls. -/

namespace Sys2Proof.Machine

/-! Address and brightness. -/

@[simp] theorem addrOk_slave (a : Byte) : addrOk .slave a = decide (a.toNat ≤ 63) := rfl
@[simp] theorem addrOk_group (a : Byte) : addrOk .group a = decide (a.toNat ≤ 15) := rfl
@[simp] theorem addrOk_broadcast (a : Byte) : addrOk .broadcast a = true := rfl

theorem clampBrightness_le (b : Byte) : (clampBrightness b).toNat = min b.toNat 254 := by
  unfold clampBrightness brightnessMax
  split
  · omega
  · simp; omega

/-! The codec by its checks. -/

theorem encodeArc_ok {mode : Mode} {a b : Byte} (h : addrOk mode a = true) :
    encodeArc mode a b = .ok (mkFrame (headerByte mode a false) (clampBrightness b)) := by
  simp [encodeArc, h]

theorem encodeArc_bad {mode : Mode} {a b : Byte} (h : addrOk mode a = false) :
    encodeArc mode a b = .error .wrongAddress := by
  simp [encodeArc, h]

theorem encodeAddressed_ok {mode : Mode} {a d : Byte} (h : addrOk mode a = true) :
    encodeAddressed mode a d = .ok (mkFrame (headerByte mode a true) d) := by
  simp [encodeAddressed, h]

theorem encodeAddressed_bad {mode : Mode} {a d : Byte} (h : addrOk mode a = false) :
    encodeAddressed mode a d = .error .wrongAddress := by
  simp [encodeAddressed, h]

theorem encodeCommand_accepted (t : Tables) (mode : Mode) (a c : Byte) (hr : isReserved c = false)
    (hp : isParamCmd t c = false) : encodeCommand t mode a c = encodeAddressed mode a c := by
  simp [encodeCommand, hr, hp]

theorem encodeParam_accepted (t : Tables) (mode : Mode) (a c p : Byte) (hp : isParamCmd t c = true)
    (hn : p.toNat ≤ 15) : encodeParam t mode a c p = encodeAddressed mode a (c ||| p) := by
  have : ¬ 15 < p.toNat := by omega
  simp [encodeParam, hp, paramMax, this]

theorem encodeSend_entry {t : Tables} {c : Byte} {e : CmdEntry} (h : cmdLookup t c = some e)
    (mode : Mode) (a p : Byte) {f : Frame} (hf : encodeEntry t e mode c a p = .ok f) :
    encodeSend t mode c a p = .ok (e.tmode, f) := by
  simp [encodeSend, h, hf]

/-! The symbol sequence. -/

@[simp] theorem bitSymbols_length (b : Bool) : (bitSymbols b).length = 2 := by
  cases b <;> rfl

@[simp] theorem dataSymbols_length (v : BitVec 16) (n : Nat) : (dataSymbols v n).length = 2 * n := by
  induction n with
  | zero => rfl
  | succ n ih => simp [dataSymbols, ih]; omega

@[simp] theorem symSeq_length (v : BitVec 16) (n k : Nat) : (symSeq v n k).length = symCount n k := by
  simp [symSeq, startSymbols, stopSymbols, symCount]; omega

theorem symCount_pos (n k : Nat) : 0 < symCount n k := by
  unfold symCount; omega

/-! The half-bit period. -/

theorem halfBit_toNat (baud : Word32) (h : 1 ≤ baud.toNat) : (halfBit baud).toNat = 500000 / baud.toNat := by
  have h0 : baud ≠ 0 := by
    intro h0; simp [h0] at h
  have hle : 500000 / baud.toNat ≤ 500000 := Nat.div_le_self _ _
  simp only [halfBit, if_neg h0, hbNumerator, BitVec.toNat_ofNat]
  exact Nat.mod_eq_of_lt (by omega)

/-! Polls. -/

theorem waitPoll_wrapped {w t : Time31} {hb : Word32} (h : t.toNat < w.toNat) :
    waitPoll w hb t = .wrapped := by
  simp [waitPoll, h]

theorem waitPoll_elapsed {w t : Time31} {hb : Word32} (hh : hb.toNat ≤ 500000) (h : w.toNat + hb.toNat ≤ t.toNat) :
    waitPoll w hb t = .elapsed := by
  have hw := w.isLt
  have h1 : ¬ t.toNat < w.toNat := by omega
  have h2 : (w.setWidth 32 + hb).toNat ≤ t.toNat := by
    simp only [BitVec.toNat_add, BitVec.toNat_setWidth]; omega
  rw [waitPoll, if_neg h1, if_pos h2]

theorem waitPoll_waiting {w t : Time31} {hb : Word32} (hh : hb.toNat ≤ 500000) (h0 : w.toNat ≤ t.toNat)
    (h : t.toNat < w.toNat + hb.toNat) : waitPoll w hb t = .waiting := by
  have hw := w.isLt
  have h1 : ¬ t.toNat < w.toNat := by omega
  have h2 : ¬ (w.setWidth 32 + hb).toNat ≤ t.toNat := by
    simp only [BitVec.toNat_add, BitVec.toNat_setWidth]; omega
  rw [waitPoll, if_neg h1, if_neg h2]

end Sys2Proof.Machine
end

