-- ==== Sys2Proof/Laws/State.lean ====
section
/-! SUPPORT. What each named update of the state does to each field: one lemma per field per update, so that no proof unfolds a record update. -/

namespace Sys2Proof.Machine

@[simp] theorem emit_params (e : Event) (s : State) : (emit e s).params = s.params := rfl
@[simp] theorem emit_cfgBaud (e : Event) (s : State) : (emit e s).cfgBaud = s.cfgBaud := rfl
@[simp] theorem emit_cfgTxbits (e : Event) (s : State) : (emit e s).cfgTxbits = s.cfgTxbits := rfl
@[simp] theorem emit_cfgRxbits (e : Event) (s : State) : (emit e s).cfgRxbits = s.cfgRxbits := rfl
@[simp] theorem emit_cfgStop (e : Event) (s : State) : (emit e s).cfgStop = s.cfgStop := rfl
@[simp] theorem emit_cfgTxpin (e : Event) (s : State) : (emit e s).cfgTxpin = s.cfgTxpin := rfl
@[simp] theorem emit_cfgRxpin (e : Event) (s : State) : (emit e s).cfgRxpin = s.cfgRxpin := rfl
@[simp] theorem emit_cfgValid (e : Event) (s : State) : (emit e s).cfgValid = s.cfgValid := rfl
@[simp] theorem emit_reqBusy (e : Event) (s : State) : (emit e s).reqBusy = s.reqBusy := rfl
@[simp] theorem emit_txState (e : Event) (s : State) : (emit e s).txState = s.txState := rfl
@[simp] theorem emit_txValue (e : Event) (s : State) : (emit e s).txValue = s.txValue := rfl
@[simp] theorem emit_txSeq (e : Event) (s : State) : (emit e s).txSeq = s.txSeq := rfl
@[simp] theorem emit_txNsym (e : Event) (s : State) : (emit e s).txNsym = s.txNsym := rfl
@[simp] theorem emit_txSym (e : Event) (s : State) : (emit e s).txSym = s.txSym := rfl
@[simp] theorem emit_txHb (e : Event) (s : State) : (emit e s).txHb = s.txHb := rfl
@[simp] theorem emit_txWstart (e : Event) (s : State) : (emit e s).txWstart = s.txWstart := rfl
@[simp] theorem emit_txRetries (e : Event) (s : State) : (emit e s).txRetries = s.txRetries := rfl
@[simp] theorem emit_txLine (e : Event) (s : State) : (emit e s).txLine = s.txLine := rfl
@[simp] theorem emit_rxState (e : Event) (s : State) : (emit e s).rxState = s.rxState := rfl
@[simp] theorem emit_rxTcall (e : Event) (s : State) : (emit e s).rxTcall = s.rxTcall := rfl
@[simp] theorem emit_rxTedge (e : Event) (s : State) : (emit e s).rxTedge = s.rxTedge := rfl
@[simp] theorem emit_rxPrev (e : Event) (s : State) : (emit e s).rxPrev = s.rxPrev := rfl
@[simp] theorem emit_rxK (e : Event) (s : State) : (emit e s).rxK = s.rxK := rfl
@[simp] theorem emit_rxShift (e : Event) (s : State) : (emit e s).rxShift = s.rxShift := rfl
@[simp] theorem emit_dspState (e : Event) (s : State) : (emit e s).dspState = s.dspState := rfl
@[simp] theorem emit_dspFrame (e : Event) (s : State) : (emit e s).dspFrame = s.dspFrame := rfl
@[simp] theorem emit_dspTmode (e : Event) (s : State) : (emit e s).dspTmode = s.dspTmode := rfl
@[simp] theorem emit_csActive (e : Event) (s : State) : (emit e s).csActive = s.csActive := rfl
@[simp] theorem emit_csToken (e : Event) (s : State) : (emit e s).csToken = s.csToken := rfl
@[simp] theorem emit_ctl (e : Event) (s : State) : (emit e s).ctl = s.ctl := rfl
@[simp] theorem emit_response (e : Event) (s : State) : (emit e s).response = s.response := rfl
@[simp] theorem emit_trace (e : Event) (s : State) : (emit e s).trace = e :: s.trace := rfl
@[simp] theorem emit_port (e : Event) (s : State) : (emit e s).port = s.port := rfl
@[simp] theorem emit_program (e : Event) (s : State) : (emit e s).program = s.program := rfl
@[simp] theorem emit_env (e : Event) (s : State) : (emit e s).env = s.env := rfl

@[simp] theorem delayUs_params (n : Nat) (s : State) : (delayUs n s).params = s.params := rfl
@[simp] theorem delayUs_cfgBaud (n : Nat) (s : State) : (delayUs n s).cfgBaud = s.cfgBaud := rfl
@[simp] theorem delayUs_cfgTxbits (n : Nat) (s : State) : (delayUs n s).cfgTxbits = s.cfgTxbits := rfl
@[simp] theorem delayUs_cfgRxbits (n : Nat) (s : State) : (delayUs n s).cfgRxbits = s.cfgRxbits := rfl
@[simp] theorem delayUs_cfgStop (n : Nat) (s : State) : (delayUs n s).cfgStop = s.cfgStop := rfl
@[simp] theorem delayUs_cfgTxpin (n : Nat) (s : State) : (delayUs n s).cfgTxpin = s.cfgTxpin := rfl
@[simp] theorem delayUs_cfgRxpin (n : Nat) (s : State) : (delayUs n s).cfgRxpin = s.cfgRxpin := rfl
@[simp] theorem delayUs_cfgValid (n : Nat) (s : State) : (delayUs n s).cfgValid = s.cfgValid := rfl
@[simp] theorem delayUs_reqBusy (n : Nat) (s : State) : (delayUs n s).reqBusy = s.reqBusy := rfl
@[simp] theorem delayUs_txState (n : Nat) (s : State) : (delayUs n s).txState = s.txState := rfl
@[simp] theorem delayUs_txValue (n : Nat) (s : State) : (delayUs n s).txValue = s.txValue := rfl
@[simp] theorem delayUs_txSeq (n : Nat) (s : State) : (delayUs n s).txSeq = s.txSeq := rfl
@[simp] theorem delayUs_txNsym (n : Nat) (s : State) : (delayUs n s).txNsym = s.txNsym := rfl
@[simp] theorem delayUs_txSym (n : Nat) (s : State) : (delayUs n s).txSym = s.txSym := rfl
@[simp] theorem delayUs_txHb (n : Nat) (s : State) : (delayUs n s).txHb = s.txHb := rfl
@[simp] theorem delayUs_txWstart (n : Nat) (s : State) : (delayUs n s).txWstart = s.txWstart := rfl
@[simp] theorem delayUs_txRetries (n : Nat) (s : State) : (delayUs n s).txRetries = s.txRetries := rfl
@[simp] theorem delayUs_txLine (n : Nat) (s : State) : (delayUs n s).txLine = s.txLine := rfl
@[simp] theorem delayUs_rxState (n : Nat) (s : State) : (delayUs n s).rxState = s.rxState := rfl
@[simp] theorem delayUs_rxTcall (n : Nat) (s : State) : (delayUs n s).rxTcall = s.rxTcall := rfl
@[simp] theorem delayUs_rxTedge (n : Nat) (s : State) : (delayUs n s).rxTedge = s.rxTedge := rfl
@[simp] theorem delayUs_rxPrev (n : Nat) (s : State) : (delayUs n s).rxPrev = s.rxPrev := rfl
@[simp] theorem delayUs_rxK (n : Nat) (s : State) : (delayUs n s).rxK = s.rxK := rfl
@[simp] theorem delayUs_rxShift (n : Nat) (s : State) : (delayUs n s).rxShift = s.rxShift := rfl
@[simp] theorem delayUs_dspState (n : Nat) (s : State) : (delayUs n s).dspState = s.dspState := rfl
@[simp] theorem delayUs_dspFrame (n : Nat) (s : State) : (delayUs n s).dspFrame = s.dspFrame := rfl
@[simp] theorem delayUs_dspTmode (n : Nat) (s : State) : (delayUs n s).dspTmode = s.dspTmode := rfl
@[simp] theorem delayUs_csActive (n : Nat) (s : State) : (delayUs n s).csActive = s.csActive := rfl
@[simp] theorem delayUs_csToken (n : Nat) (s : State) : (delayUs n s).csToken = s.csToken := rfl
@[simp] theorem delayUs_ctl (n : Nat) (s : State) : (delayUs n s).ctl = s.ctl := rfl
@[simp] theorem delayUs_response (n : Nat) (s : State) : (delayUs n s).response = s.response := rfl
@[simp] theorem delayUs_trace (n : Nat) (s : State) : (delayUs n s).trace = .delayUs n :: s.trace := rfl
@[simp] theorem delayUs_port (n : Nat) (s : State) : (delayUs n s).port = s.port := rfl
@[simp] theorem delayUs_program (n : Nat) (s : State) : (delayUs n s).program = s.program := rfl
@[simp] theorem delayUs_env (n : Nat) (s : State) : (delayUs n s).env = s.env := rfl

@[simp] theorem writeTx_params (l : Level) (s : State) : (writeTx l s).params = s.params := rfl
@[simp] theorem writeTx_cfgBaud (l : Level) (s : State) : (writeTx l s).cfgBaud = s.cfgBaud := rfl
@[simp] theorem writeTx_cfgTxbits (l : Level) (s : State) : (writeTx l s).cfgTxbits = s.cfgTxbits := rfl
@[simp] theorem writeTx_cfgRxbits (l : Level) (s : State) : (writeTx l s).cfgRxbits = s.cfgRxbits := rfl
@[simp] theorem writeTx_cfgStop (l : Level) (s : State) : (writeTx l s).cfgStop = s.cfgStop := rfl
@[simp] theorem writeTx_cfgTxpin (l : Level) (s : State) : (writeTx l s).cfgTxpin = s.cfgTxpin := rfl
@[simp] theorem writeTx_cfgRxpin (l : Level) (s : State) : (writeTx l s).cfgRxpin = s.cfgRxpin := rfl
@[simp] theorem writeTx_cfgValid (l : Level) (s : State) : (writeTx l s).cfgValid = s.cfgValid := rfl
@[simp] theorem writeTx_reqBusy (l : Level) (s : State) : (writeTx l s).reqBusy = s.reqBusy := rfl
@[simp] theorem writeTx_txState (l : Level) (s : State) : (writeTx l s).txState = s.txState := rfl
@[simp] theorem writeTx_txValue (l : Level) (s : State) : (writeTx l s).txValue = s.txValue := rfl
@[simp] theorem writeTx_txSeq (l : Level) (s : State) : (writeTx l s).txSeq = s.txSeq := rfl
@[simp] theorem writeTx_txNsym (l : Level) (s : State) : (writeTx l s).txNsym = s.txNsym := rfl
@[simp] theorem writeTx_txSym (l : Level) (s : State) : (writeTx l s).txSym = s.txSym := rfl
@[simp] theorem writeTx_txHb (l : Level) (s : State) : (writeTx l s).txHb = s.txHb := rfl
@[simp] theorem writeTx_txWstart (l : Level) (s : State) : (writeTx l s).txWstart = s.txWstart := rfl
@[simp] theorem writeTx_txRetries (l : Level) (s : State) : (writeTx l s).txRetries = s.txRetries := rfl
@[simp] theorem writeTx_txLine (l : Level) (s : State) : (writeTx l s).txLine = some l := rfl
@[simp] theorem writeTx_rxState (l : Level) (s : State) : (writeTx l s).rxState = s.rxState := rfl
@[simp] theorem writeTx_rxTcall (l : Level) (s : State) : (writeTx l s).rxTcall = s.rxTcall := rfl
@[simp] theorem writeTx_rxTedge (l : Level) (s : State) : (writeTx l s).rxTedge = s.rxTedge := rfl
@[simp] theorem writeTx_rxPrev (l : Level) (s : State) : (writeTx l s).rxPrev = s.rxPrev := rfl
@[simp] theorem writeTx_rxK (l : Level) (s : State) : (writeTx l s).rxK = s.rxK := rfl
@[simp] theorem writeTx_rxShift (l : Level) (s : State) : (writeTx l s).rxShift = s.rxShift := rfl
@[simp] theorem writeTx_dspState (l : Level) (s : State) : (writeTx l s).dspState = s.dspState := rfl
@[simp] theorem writeTx_dspFrame (l : Level) (s : State) : (writeTx l s).dspFrame = s.dspFrame := rfl
@[simp] theorem writeTx_dspTmode (l : Level) (s : State) : (writeTx l s).dspTmode = s.dspTmode := rfl
@[simp] theorem writeTx_csActive (l : Level) (s : State) : (writeTx l s).csActive = s.csActive := rfl
@[simp] theorem writeTx_csToken (l : Level) (s : State) : (writeTx l s).csToken = s.csToken := rfl
@[simp] theorem writeTx_ctl (l : Level) (s : State) : (writeTx l s).ctl = s.ctl := rfl
@[simp] theorem writeTx_response (l : Level) (s : State) : (writeTx l s).response = s.response := rfl
@[simp] theorem writeTx_trace (l : Level) (s : State) : (writeTx l s).trace = .writePin s.cfgTxpin (pinLevel s.params.txInvert l) :: s.trace := rfl
@[simp] theorem writeTx_port (l : Level) (s : State) : (writeTx l s).port = s.port := rfl
@[simp] theorem writeTx_program (l : Level) (s : State) : (writeTx l s).program = s.program := rfl
@[simp] theorem writeTx_env (l : Level) (s : State) : (writeTx l s).env = s.env := rfl

@[simp] theorem readNow_params (s : State) : (readNow s).2.params = s.params := rfl
@[simp] theorem readNow_cfgBaud (s : State) : (readNow s).2.cfgBaud = s.cfgBaud := rfl
@[simp] theorem readNow_cfgTxbits (s : State) : (readNow s).2.cfgTxbits = s.cfgTxbits := rfl
@[simp] theorem readNow_cfgRxbits (s : State) : (readNow s).2.cfgRxbits = s.cfgRxbits := rfl
@[simp] theorem readNow_cfgStop (s : State) : (readNow s).2.cfgStop = s.cfgStop := rfl
@[simp] theorem readNow_cfgTxpin (s : State) : (readNow s).2.cfgTxpin = s.cfgTxpin := rfl
@[simp] theorem readNow_cfgRxpin (s : State) : (readNow s).2.cfgRxpin = s.cfgRxpin := rfl
@[simp] theorem readNow_cfgValid (s : State) : (readNow s).2.cfgValid = s.cfgValid := rfl
@[simp] theorem readNow_reqBusy (s : State) : (readNow s).2.reqBusy = s.reqBusy := rfl
@[simp] theorem readNow_txState (s : State) : (readNow s).2.txState = s.txState := rfl
@[simp] theorem readNow_txValue (s : State) : (readNow s).2.txValue = s.txValue := rfl
@[simp] theorem readNow_txSeq (s : State) : (readNow s).2.txSeq = s.txSeq := rfl
@[simp] theorem readNow_txNsym (s : State) : (readNow s).2.txNsym = s.txNsym := rfl
@[simp] theorem readNow_txSym (s : State) : (readNow s).2.txSym = s.txSym := rfl
@[simp] theorem readNow_txHb (s : State) : (readNow s).2.txHb = s.txHb := rfl
@[simp] theorem readNow_txWstart (s : State) : (readNow s).2.txWstart = s.txWstart := rfl
@[simp] theorem readNow_txRetries (s : State) : (readNow s).2.txRetries = s.txRetries := rfl
@[simp] theorem readNow_txLine (s : State) : (readNow s).2.txLine = s.txLine := rfl
@[simp] theorem readNow_rxState (s : State) : (readNow s).2.rxState = s.rxState := rfl
@[simp] theorem readNow_rxTcall (s : State) : (readNow s).2.rxTcall = s.rxTcall := rfl
@[simp] theorem readNow_rxTedge (s : State) : (readNow s).2.rxTedge = s.rxTedge := rfl
@[simp] theorem readNow_rxPrev (s : State) : (readNow s).2.rxPrev = s.rxPrev := rfl
@[simp] theorem readNow_rxK (s : State) : (readNow s).2.rxK = s.rxK := rfl
@[simp] theorem readNow_rxShift (s : State) : (readNow s).2.rxShift = s.rxShift := rfl
@[simp] theorem readNow_dspState (s : State) : (readNow s).2.dspState = s.dspState := rfl
@[simp] theorem readNow_dspFrame (s : State) : (readNow s).2.dspFrame = s.dspFrame := rfl
@[simp] theorem readNow_dspTmode (s : State) : (readNow s).2.dspTmode = s.dspTmode := rfl
@[simp] theorem readNow_csActive (s : State) : (readNow s).2.csActive = s.csActive := rfl
@[simp] theorem readNow_csToken (s : State) : (readNow s).2.csToken = s.csToken := rfl
@[simp] theorem readNow_ctl (s : State) : (readNow s).2.ctl = s.ctl := rfl
@[simp] theorem readNow_response (s : State) : (readNow s).2.response = s.response := rfl
@[simp] theorem readNow_trace (s : State) : (readNow s).2.trace = .now (drawNow s.env).1 :: s.trace := rfl
@[simp] theorem readNow_port (s : State) : (readNow s).2.port = s.port := rfl
@[simp] theorem readNow_program (s : State) : (readNow s).2.program = s.program := rfl
@[simp] theorem readNow_env (s : State) : (readNow s).2.env = (drawNow s.env).2 := rfl

@[simp] theorem readRxPin_params (s : State) : (readRxPin s).2.params = s.params := rfl
@[simp] theorem readRxPin_cfgBaud (s : State) : (readRxPin s).2.cfgBaud = s.cfgBaud := rfl
@[simp] theorem readRxPin_cfgTxbits (s : State) : (readRxPin s).2.cfgTxbits = s.cfgTxbits := rfl
@[simp] theorem readRxPin_cfgRxbits (s : State) : (readRxPin s).2.cfgRxbits = s.cfgRxbits := rfl
@[simp] theorem readRxPin_cfgStop (s : State) : (readRxPin s).2.cfgStop = s.cfgStop := rfl
@[simp] theorem readRxPin_cfgTxpin (s : State) : (readRxPin s).2.cfgTxpin = s.cfgTxpin := rfl
@[simp] theorem readRxPin_cfgRxpin (s : State) : (readRxPin s).2.cfgRxpin = s.cfgRxpin := rfl
@[simp] theorem readRxPin_cfgValid (s : State) : (readRxPin s).2.cfgValid = s.cfgValid := rfl
@[simp] theorem readRxPin_reqBusy (s : State) : (readRxPin s).2.reqBusy = s.reqBusy := rfl
@[simp] theorem readRxPin_txState (s : State) : (readRxPin s).2.txState = s.txState := rfl
@[simp] theorem readRxPin_txValue (s : State) : (readRxPin s).2.txValue = s.txValue := rfl
@[simp] theorem readRxPin_txSeq (s : State) : (readRxPin s).2.txSeq = s.txSeq := rfl
@[simp] theorem readRxPin_txNsym (s : State) : (readRxPin s).2.txNsym = s.txNsym := rfl
@[simp] theorem readRxPin_txSym (s : State) : (readRxPin s).2.txSym = s.txSym := rfl
@[simp] theorem readRxPin_txHb (s : State) : (readRxPin s).2.txHb = s.txHb := rfl
@[simp] theorem readRxPin_txWstart (s : State) : (readRxPin s).2.txWstart = s.txWstart := rfl
@[simp] theorem readRxPin_txRetries (s : State) : (readRxPin s).2.txRetries = s.txRetries := rfl
@[simp] theorem readRxPin_txLine (s : State) : (readRxPin s).2.txLine = s.txLine := rfl
@[simp] theorem readRxPin_rxState (s : State) : (readRxPin s).2.rxState = s.rxState := rfl
@[simp] theorem readRxPin_rxTcall (s : State) : (readRxPin s).2.rxTcall = s.rxTcall := rfl
@[simp] theorem readRxPin_rxTedge (s : State) : (readRxPin s).2.rxTedge = s.rxTedge := rfl
@[simp] theorem readRxPin_rxPrev (s : State) : (readRxPin s).2.rxPrev = s.rxPrev := rfl
@[simp] theorem readRxPin_rxK (s : State) : (readRxPin s).2.rxK = s.rxK := rfl
@[simp] theorem readRxPin_rxShift (s : State) : (readRxPin s).2.rxShift = s.rxShift := rfl
@[simp] theorem readRxPin_dspState (s : State) : (readRxPin s).2.dspState = s.dspState := rfl
@[simp] theorem readRxPin_dspFrame (s : State) : (readRxPin s).2.dspFrame = s.dspFrame := rfl
@[simp] theorem readRxPin_dspTmode (s : State) : (readRxPin s).2.dspTmode = s.dspTmode := rfl
@[simp] theorem readRxPin_csActive (s : State) : (readRxPin s).2.csActive = s.csActive := rfl
@[simp] theorem readRxPin_csToken (s : State) : (readRxPin s).2.csToken = s.csToken := rfl
@[simp] theorem readRxPin_ctl (s : State) : (readRxPin s).2.ctl = s.ctl := rfl
@[simp] theorem readRxPin_response (s : State) : (readRxPin s).2.response = s.response := rfl
@[simp] theorem readRxPin_trace (s : State) : (readRxPin s).2.trace = .readPin s.cfgRxpin (drawPin s.env).1 :: s.trace := rfl
@[simp] theorem readRxPin_port (s : State) : (readRxPin s).2.port = s.port := rfl
@[simp] theorem readRxPin_program (s : State) : (readRxPin s).2.program = s.program := rfl
@[simp] theorem readRxPin_env (s : State) : (readRxPin s).2.env = (drawPin s.env).2 := rfl

@[simp] theorem intDisableSave_params (s : State) : (intDisableSave s).params = s.params := rfl
@[simp] theorem intDisableSave_cfgBaud (s : State) : (intDisableSave s).cfgBaud = s.cfgBaud := rfl
@[simp] theorem intDisableSave_cfgTxbits (s : State) : (intDisableSave s).cfgTxbits = s.cfgTxbits := rfl
@[simp] theorem intDisableSave_cfgRxbits (s : State) : (intDisableSave s).cfgRxbits = s.cfgRxbits := rfl
@[simp] theorem intDisableSave_cfgStop (s : State) : (intDisableSave s).cfgStop = s.cfgStop := rfl
@[simp] theorem intDisableSave_cfgTxpin (s : State) : (intDisableSave s).cfgTxpin = s.cfgTxpin := rfl
@[simp] theorem intDisableSave_cfgRxpin (s : State) : (intDisableSave s).cfgRxpin = s.cfgRxpin := rfl
@[simp] theorem intDisableSave_cfgValid (s : State) : (intDisableSave s).cfgValid = s.cfgValid := rfl
@[simp] theorem intDisableSave_reqBusy (s : State) : (intDisableSave s).reqBusy = s.reqBusy := rfl
@[simp] theorem intDisableSave_txState (s : State) : (intDisableSave s).txState = s.txState := rfl
@[simp] theorem intDisableSave_txValue (s : State) : (intDisableSave s).txValue = s.txValue := rfl
@[simp] theorem intDisableSave_txSeq (s : State) : (intDisableSave s).txSeq = s.txSeq := rfl
@[simp] theorem intDisableSave_txNsym (s : State) : (intDisableSave s).txNsym = s.txNsym := rfl
@[simp] theorem intDisableSave_txSym (s : State) : (intDisableSave s).txSym = s.txSym := rfl
@[simp] theorem intDisableSave_txHb (s : State) : (intDisableSave s).txHb = s.txHb := rfl
@[simp] theorem intDisableSave_txWstart (s : State) : (intDisableSave s).txWstart = s.txWstart := rfl
@[simp] theorem intDisableSave_txRetries (s : State) : (intDisableSave s).txRetries = s.txRetries := rfl
@[simp] theorem intDisableSave_txLine (s : State) : (intDisableSave s).txLine = s.txLine := rfl
@[simp] theorem intDisableSave_rxState (s : State) : (intDisableSave s).rxState = s.rxState := rfl
@[simp] theorem intDisableSave_rxTcall (s : State) : (intDisableSave s).rxTcall = s.rxTcall := rfl
@[simp] theorem intDisableSave_rxTedge (s : State) : (intDisableSave s).rxTedge = s.rxTedge := rfl
@[simp] theorem intDisableSave_rxPrev (s : State) : (intDisableSave s).rxPrev = s.rxPrev := rfl
@[simp] theorem intDisableSave_rxK (s : State) : (intDisableSave s).rxK = s.rxK := rfl
@[simp] theorem intDisableSave_rxShift (s : State) : (intDisableSave s).rxShift = s.rxShift := rfl
@[simp] theorem intDisableSave_dspState (s : State) : (intDisableSave s).dspState = s.dspState := rfl
@[simp] theorem intDisableSave_dspFrame (s : State) : (intDisableSave s).dspFrame = s.dspFrame := rfl
@[simp] theorem intDisableSave_dspTmode (s : State) : (intDisableSave s).dspTmode = s.dspTmode := rfl
@[simp] theorem intDisableSave_csActive (s : State) : (intDisableSave s).csActive = true := rfl
@[simp] theorem intDisableSave_csToken (s : State) : (intDisableSave s).csToken = (drawToken s.env).1 := rfl
@[simp] theorem intDisableSave_ctl (s : State) : (intDisableSave s).ctl = s.ctl := rfl
@[simp] theorem intDisableSave_response (s : State) : (intDisableSave s).response = s.response := rfl
@[simp] theorem intDisableSave_trace (s : State) : (intDisableSave s).trace = .intDisableSave (drawToken s.env).1 :: s.trace := rfl
@[simp] theorem intDisableSave_port (s : State) : (intDisableSave s).port = s.port := rfl
@[simp] theorem intDisableSave_program (s : State) : (intDisableSave s).program = s.program := rfl
@[simp] theorem intDisableSave_env (s : State) : (intDisableSave s).env = (drawToken s.env).2 := rfl

@[simp] theorem intRestore_params (s : State) : (intRestore s).params = s.params := rfl
@[simp] theorem intRestore_cfgBaud (s : State) : (intRestore s).cfgBaud = s.cfgBaud := rfl
@[simp] theorem intRestore_cfgTxbits (s : State) : (intRestore s).cfgTxbits = s.cfgTxbits := rfl
@[simp] theorem intRestore_cfgRxbits (s : State) : (intRestore s).cfgRxbits = s.cfgRxbits := rfl
@[simp] theorem intRestore_cfgStop (s : State) : (intRestore s).cfgStop = s.cfgStop := rfl
@[simp] theorem intRestore_cfgTxpin (s : State) : (intRestore s).cfgTxpin = s.cfgTxpin := rfl
@[simp] theorem intRestore_cfgRxpin (s : State) : (intRestore s).cfgRxpin = s.cfgRxpin := rfl
@[simp] theorem intRestore_cfgValid (s : State) : (intRestore s).cfgValid = s.cfgValid := rfl
@[simp] theorem intRestore_reqBusy (s : State) : (intRestore s).reqBusy = s.reqBusy := rfl
@[simp] theorem intRestore_txState (s : State) : (intRestore s).txState = s.txState := rfl
@[simp] theorem intRestore_txValue (s : State) : (intRestore s).txValue = s.txValue := rfl
@[simp] theorem intRestore_txSeq (s : State) : (intRestore s).txSeq = s.txSeq := rfl
@[simp] theorem intRestore_txNsym (s : State) : (intRestore s).txNsym = s.txNsym := rfl
@[simp] theorem intRestore_txSym (s : State) : (intRestore s).txSym = s.txSym := rfl
@[simp] theorem intRestore_txHb (s : State) : (intRestore s).txHb = s.txHb := rfl
@[simp] theorem intRestore_txWstart (s : State) : (intRestore s).txWstart = s.txWstart := rfl
@[simp] theorem intRestore_txRetries (s : State) : (intRestore s).txRetries = s.txRetries := rfl
@[simp] theorem intRestore_txLine (s : State) : (intRestore s).txLine = s.txLine := rfl
@[simp] theorem intRestore_rxState (s : State) : (intRestore s).rxState = s.rxState := rfl
@[simp] theorem intRestore_rxTcall (s : State) : (intRestore s).rxTcall = s.rxTcall := rfl
@[simp] theorem intRestore_rxTedge (s : State) : (intRestore s).rxTedge = s.rxTedge := rfl
@[simp] theorem intRestore_rxPrev (s : State) : (intRestore s).rxPrev = s.rxPrev := rfl
@[simp] theorem intRestore_rxK (s : State) : (intRestore s).rxK = s.rxK := rfl
@[simp] theorem intRestore_rxShift (s : State) : (intRestore s).rxShift = s.rxShift := rfl
@[simp] theorem intRestore_dspState (s : State) : (intRestore s).dspState = s.dspState := rfl
@[simp] theorem intRestore_dspFrame (s : State) : (intRestore s).dspFrame = s.dspFrame := rfl
@[simp] theorem intRestore_dspTmode (s : State) : (intRestore s).dspTmode = s.dspTmode := rfl
@[simp] theorem intRestore_csActive (s : State) : (intRestore s).csActive = false := rfl
@[simp] theorem intRestore_csToken (s : State) : (intRestore s).csToken = s.csToken := rfl
@[simp] theorem intRestore_ctl (s : State) : (intRestore s).ctl = s.ctl := rfl
@[simp] theorem intRestore_response (s : State) : (intRestore s).response = s.response := rfl
@[simp] theorem intRestore_trace (s : State) : (intRestore s).trace = .intRestore s.csToken :: s.trace := rfl
@[simp] theorem intRestore_port (s : State) : (intRestore s).port = s.port := rfl
@[simp] theorem intRestore_program (s : State) : (intRestore s).program = s.program := rfl
@[simp] theorem intRestore_env (s : State) : (intRestore s).env = s.env := rfl

@[simp] theorem respond_params (r : Response) (s : State) : (respond r s).params = s.params := rfl
@[simp] theorem respond_cfgBaud (r : Response) (s : State) : (respond r s).cfgBaud = s.cfgBaud := rfl
@[simp] theorem respond_cfgTxbits (r : Response) (s : State) : (respond r s).cfgTxbits = s.cfgTxbits := rfl
@[simp] theorem respond_cfgRxbits (r : Response) (s : State) : (respond r s).cfgRxbits = s.cfgRxbits := rfl
@[simp] theorem respond_cfgStop (r : Response) (s : State) : (respond r s).cfgStop = s.cfgStop := rfl
@[simp] theorem respond_cfgTxpin (r : Response) (s : State) : (respond r s).cfgTxpin = s.cfgTxpin := rfl
@[simp] theorem respond_cfgRxpin (r : Response) (s : State) : (respond r s).cfgRxpin = s.cfgRxpin := rfl
@[simp] theorem respond_cfgValid (r : Response) (s : State) : (respond r s).cfgValid = s.cfgValid := rfl
@[simp] theorem respond_reqBusy (r : Response) (s : State) : (respond r s).reqBusy = false := rfl
@[simp] theorem respond_txState (r : Response) (s : State) : (respond r s).txState = s.txState := rfl
@[simp] theorem respond_txValue (r : Response) (s : State) : (respond r s).txValue = s.txValue := rfl
@[simp] theorem respond_txSeq (r : Response) (s : State) : (respond r s).txSeq = s.txSeq := rfl
@[simp] theorem respond_txNsym (r : Response) (s : State) : (respond r s).txNsym = s.txNsym := rfl
@[simp] theorem respond_txSym (r : Response) (s : State) : (respond r s).txSym = s.txSym := rfl
@[simp] theorem respond_txHb (r : Response) (s : State) : (respond r s).txHb = s.txHb := rfl
@[simp] theorem respond_txWstart (r : Response) (s : State) : (respond r s).txWstart = s.txWstart := rfl
@[simp] theorem respond_txRetries (r : Response) (s : State) : (respond r s).txRetries = s.txRetries := rfl
@[simp] theorem respond_txLine (r : Response) (s : State) : (respond r s).txLine = s.txLine := rfl
@[simp] theorem respond_rxState (r : Response) (s : State) : (respond r s).rxState = s.rxState := rfl
@[simp] theorem respond_rxTcall (r : Response) (s : State) : (respond r s).rxTcall = s.rxTcall := rfl
@[simp] theorem respond_rxTedge (r : Response) (s : State) : (respond r s).rxTedge = s.rxTedge := rfl
@[simp] theorem respond_rxPrev (r : Response) (s : State) : (respond r s).rxPrev = s.rxPrev := rfl
@[simp] theorem respond_rxK (r : Response) (s : State) : (respond r s).rxK = s.rxK := rfl
@[simp] theorem respond_rxShift (r : Response) (s : State) : (respond r s).rxShift = s.rxShift := rfl
@[simp] theorem respond_dspState (r : Response) (s : State) : (respond r s).dspState = s.dspState := rfl
@[simp] theorem respond_dspFrame (r : Response) (s : State) : (respond r s).dspFrame = s.dspFrame := rfl
@[simp] theorem respond_dspTmode (r : Response) (s : State) : (respond r s).dspTmode = s.dspTmode := rfl
@[simp] theorem respond_csActive (r : Response) (s : State) : (respond r s).csActive = s.csActive := rfl
@[simp] theorem respond_csToken (r : Response) (s : State) : (respond r s).csToken = s.csToken := rfl
@[simp] theorem respond_ctl (r : Response) (s : State) : (respond r s).ctl = .idle := rfl
@[simp] theorem respond_response (r : Response) (s : State) : (respond r s).response = some r := rfl
@[simp] theorem respond_trace (r : Response) (s : State) : (respond r s).trace = s.trace := rfl
@[simp] theorem respond_port (r : Response) (s : State) : (respond r s).port = s.port := rfl
@[simp] theorem respond_program (r : Response) (s : State) : (respond r s).program = s.program := rfl
@[simp] theorem respond_env (r : Response) (s : State) : (respond r s).env = s.env := rfl

@[simp] theorem accept_params (s : State) : (accept s).params = s.params := rfl
@[simp] theorem accept_cfgBaud (s : State) : (accept s).cfgBaud = s.cfgBaud := rfl
@[simp] theorem accept_cfgTxbits (s : State) : (accept s).cfgTxbits = s.cfgTxbits := rfl
@[simp] theorem accept_cfgRxbits (s : State) : (accept s).cfgRxbits = s.cfgRxbits := rfl
@[simp] theorem accept_cfgStop (s : State) : (accept s).cfgStop = s.cfgStop := rfl
@[simp] theorem accept_cfgTxpin (s : State) : (accept s).cfgTxpin = s.cfgTxpin := rfl
@[simp] theorem accept_cfgRxpin (s : State) : (accept s).cfgRxpin = s.cfgRxpin := rfl
@[simp] theorem accept_cfgValid (s : State) : (accept s).cfgValid = s.cfgValid := rfl
@[simp] theorem accept_reqBusy (s : State) : (accept s).reqBusy = true := rfl
@[simp] theorem accept_txState (s : State) : (accept s).txState = s.txState := rfl
@[simp] theorem accept_txValue (s : State) : (accept s).txValue = s.txValue := rfl
@[simp] theorem accept_txSeq (s : State) : (accept s).txSeq = s.txSeq := rfl
@[simp] theorem accept_txNsym (s : State) : (accept s).txNsym = s.txNsym := rfl
@[simp] theorem accept_txSym (s : State) : (accept s).txSym = s.txSym := rfl
@[simp] theorem accept_txHb (s : State) : (accept s).txHb = s.txHb := rfl
@[simp] theorem accept_txWstart (s : State) : (accept s).txWstart = s.txWstart := rfl
@[simp] theorem accept_txRetries (s : State) : (accept s).txRetries = s.txRetries := rfl
@[simp] theorem accept_txLine (s : State) : (accept s).txLine = s.txLine := rfl
@[simp] theorem accept_rxState (s : State) : (accept s).rxState = s.rxState := rfl
@[simp] theorem accept_rxTcall (s : State) : (accept s).rxTcall = s.rxTcall := rfl
@[simp] theorem accept_rxTedge (s : State) : (accept s).rxTedge = s.rxTedge := rfl
@[simp] theorem accept_rxPrev (s : State) : (accept s).rxPrev = s.rxPrev := rfl
@[simp] theorem accept_rxK (s : State) : (accept s).rxK = s.rxK := rfl
@[simp] theorem accept_rxShift (s : State) : (accept s).rxShift = s.rxShift := rfl
@[simp] theorem accept_dspState (s : State) : (accept s).dspState = s.dspState := rfl
@[simp] theorem accept_dspFrame (s : State) : (accept s).dspFrame = s.dspFrame := rfl
@[simp] theorem accept_dspTmode (s : State) : (accept s).dspTmode = s.dspTmode := rfl
@[simp] theorem accept_csActive (s : State) : (accept s).csActive = s.csActive := rfl
@[simp] theorem accept_csToken (s : State) : (accept s).csToken = s.csToken := rfl
@[simp] theorem accept_ctl (s : State) : (accept s).ctl = s.ctl := rfl
@[simp] theorem accept_response (s : State) : (accept s).response = none := rfl
@[simp] theorem accept_trace (s : State) : (accept s).trace = s.trace := rfl
@[simp] theorem accept_port (s : State) : (accept s).port = s.port := rfl
@[simp] theorem accept_program (s : State) : (accept s).program = s.program := rfl
@[simp] theorem accept_env (s : State) : (accept s).env = s.env := rfl

@[simp] theorem readNow_value (s : State) : (readNow s).1 = mask31 (drawNow s.env).1 := rfl
@[simp] theorem readRxPin_value (s : State) : (readRxPin s).1 = (drawPin s.env).1 := rfl

end Sys2Proof.Machine
end

