-- ==== Sys2Proof/Laws/Ops.lean ====
section
/-! SUPPORT. One lemma per shared operation that says everything it can do: draws, the exits of a request, the start of a request, the event of an active request, and a step. -/

namespace Sys2Proof.Machine

/-! Draws: an answer already fixed, else a free value; the counter advances either way (log 1). -/

theorem drawNow_fixed (t : Word32) (rest : List Word32) (env : Env) (h : env.nows = t :: rest) :
    drawNow env = (t, { env with nows := rest, drawn := env.drawn + 1 }) := by
  simp [drawNow, h]

theorem drawNow_free (env : Env) (h : env.nows = []) :
    drawNow env = (Config.freeNow env.drawn, { env with drawn := env.drawn + 1 }) := by
  simp [drawNow, h]

theorem drawPin_fixed (l : Level) (rest : List Level) (env : Env) (h : env.pins = l :: rest) :
    drawPin env = (l, { env with pins := rest, drawn := env.drawn + 1 }) := by
  simp [drawPin, h]

theorem drawPin_free (env : Env) (h : env.pins = []) :
    drawPin env =
      (if Config.freePin env.drawn then .high else .low, { env with drawn := env.drawn + 1 }) := by
  simp [drawPin, h]

theorem drawToken_fixed (t : Nat) (rest : List Nat) (env : Env) (h : env.tokens = t :: rest) :
    drawToken env = (t, { env with tokens := rest, drawn := env.drawn + 1 }) := by
  simp [drawToken, h]

theorem drawToken_free (env : Env) (h : env.tokens = []) :
    drawToken env = (Config.freeToken env.drawn, { env with drawn := env.drawn + 1 }) := by
  simp [drawToken, h]

/-! The exits of a request. -/

theorem finish_outside (r : Response) (s : State) (h : s.csActive = false) :
    finish r s = respond r s := by
  simp [finish, h]

theorem finish_inside (r : Response) (s : State) (h : s.csActive = true) :
    finish r s = { s with ctl := .csExit r none } := by
  simp [finish, h]

theorem raise_outside (st : Status) (s : State) (h : s.csActive = false) :
    raise st s = respond (errResponse st) { s with rxState := .idle, dspState := .idle } :=
  finish_outside _ _ h

theorem raise_inside (st : Status) (s : State) (h : s.csActive = true) :
    raise st s = { s with rxState := .idle, dspState := .idle, ctl := .csExit (errResponse st) none } :=
  finish_inside _ { s with rxState := .idle, dspState := .idle } h

/-- A body that is still active goes on as it is. -/
theorem undoTokenAtExit_active (prior : Nat) (s : State) (h : ∀ r p, s.ctl ≠ .csExit r p) :
    undoTokenAtExit prior s = s := by
  unfold undoTokenAtExit
  split
  · rename_i r p hc
    exact absurd hc (h r p)
  · rfl

/-- A body that has failed puts the earlier token back at its exit. -/
theorem undoTokenAtExit_exit {prior : Nat} {s : State} {r : Response} {p : Option Nat} (h : s.ctl = .csExit r p) :
    undoTokenAtExit prior s = { s with ctl := .csExit r (some prior) } := by
  simp [undoTokenAtExit, h]

/-- The last event of a guarded request (43_dispatcher.md R296, 60_exceptions.md R335). -/
theorem exitCs_spec (r : Response) (prior : Option Nat) (s : State) :
    exitCs r prior s =
      { s with
        trace := .intRestore s.csToken :: s.trace, csActive := false, csToken := prior.getD s.csToken
        reqBusy := false, ctl := .idle, response := some r } := rfl

/-! The start of a request. -/

theorem launch_answered (s : State) (h : s.reqBusy = false) : launch s = .next s := by
  simp [launch, h]

theorem launch_active (s : State) (h : s.reqBusy = true) : launch s = event s := by
  simp [launch, h]

theorem request_busy (body : State → State) (s : State) (h : s.reqBusy = true) :
    request body s = .refused .requestWhileBusy := by
  simp [request, h]

theorem request_free (body : State → State) (s : State) (h : s.reqBusy = false) :
    request body s = launch (body (accept s)) := by
  simp [request, h]

/-- A request whose body answers at once completes in that state. -/
theorem request_answered (body : State → State) (s : State) (h : s.reqBusy = false)
    (hb : (body (accept s)).reqBusy = false) : request body s = .next (body (accept s)) := by
  rw [request_free _ _ h, launch_answered _ hb]

/-- A request whose body stays active makes its first event. -/
theorem request_active (body : State → State) (s : State) (h : s.reqBusy = false)
    (hb : (body (accept s)).reqBusy = true) : request body s = event (body (accept s)) := by
  rw [request_free _ _ h, launch_active _ hb]

/-- What a presented request can do, if it answers next. -/
theorem request_next {body : State → State} {s t : State} (h : request body s = .next t) :
    s.reqBusy = false ∧
    ((body (accept s)).reqBusy = false ∧ t = body (accept s) ∨
     (body (accept s)).reqBusy = true ∧ event (body (accept s)) = .next t) := by
  cases hs : s.reqBusy with
  | true => simp [request_busy _ _ hs] at h
  | false =>
    refine ⟨rfl, ?_⟩
    rw [request_free _ _ hs] at h
    cases hb : (body (accept s)).reqBusy with
    | false => exact .inl ⟨rfl, by simpa [launch_answered _ hb] using h.symm⟩
    | true => exact .inr ⟨rfl, by simpa [launch_active _ hb] using h⟩

/-- A codec request answers at once, in the state it was given but for the response. -/
theorem request_codec (r : Except Status (BitVec 16)) (s : State) (h : s.reqBusy = false) :
    request (answer r) s =
      .next { s with reqBusy := false, ctl := .idle, response := some (codecResponse r) } := by
  rw [request_answered _ _ h (by simp [answer])]
  simp [answer, respond, accept]

/-! The event of an active request, one case per place in the pseudocode. -/

theorem txWriteEvent_next {s t : State} (h : txWriteEvent s = .next t) :
    ∃ l, s.txSeq[s.txSym.toNat]? = some l ∧ t = { writeTx l s with ctl := holdOf s.params.txVariant } := by
  unfold txWriteEvent at h
  split at h
  · rename_i l hl
    exact ⟨l, hl, by simpa using h.symm⟩
  · simp at h

theorem transmitReturned_next {s t : State} (h : transmitReturned s = .next t) :
    s.dspState = .idle ∧ t = finish (okResponse 0) s ∨
    s.dspState = .tx1 ∧ s.dspTmode = .repeatTwice ∧ t = { s with dspState := .gap, ctl := .repeatGap } ∨
    s.dspState = .tx1 ∧ s.dspTmode ≠ .repeatTwice ∧ t = finish (okResponse 0) { s with dspState := .idle } ∨
    s.dspState = .tx2 ∧ t = finish (okResponse 0) { s with dspState := .idle } := by
  unfold transmitReturned at h
  split at h
  · exact .inl ⟨‹_›, by simpa using h.symm⟩
  · split at h
    · exact .inr (.inl ⟨‹_›, ‹_›, by simpa using h.symm⟩)
    · exact .inr (.inr (.inl ⟨‹_›, ‹_›, by simpa using h.symm⟩))
  · exact .inr (.inr (.inr ⟨‹_›, by simpa using h.symm⟩))
  · simp at h

/-- The state after the event due at `s.ctl`, for the events that cannot stop. -/
def eventState (s : State) : State :=
  match s.ctl with
  | .setupTxMode => setupTxModeEvent s
  | .setupIdleLevel => setupIdleLevelEvent s
  | .setupRxMode => setupRxModeEvent s
  | .csEnter job => csEnterEvent job s
  | .csExit r prior => exitCs r prior s
  | .txHold => txHoldEvent s
  | .txStart => txStartEvent s
  | .txPoll => txPollEvent s
  | .txPause => txPauseEvent s
  | .repeatGap => repeatGapEvent s
  | .rxCall => rxCallEvent s
  | .rxFirst => rxFirstEvent s
  | .rxPoll => rxPollEvent s
  | .rxEdge t => rxEdgeEvent t s
  | .rxWaitA => rxWaitAEvent s
  | .rxReadA => rxReadAEvent s
  | .rxWaitB a => rxWaitBEvent a s
  | .rxReadB a => rxReadBEvent a s
  | .idle | .txWrite | .txSettle => s

/-- Everything an event can do, if it answers next. -/
theorem event_next {s t : State} (h : event s = .next t) :
    s.ctl = .txWrite ∧ txWriteEvent s = .next t ∨
    s.ctl = .txSettle ∧ transmitReturned (settle s) = .next t ∨
    s.ctl ≠ .idle ∧ s.ctl ≠ .txWrite ∧ s.ctl ≠ .txSettle ∧ t = eventState s := by
  unfold event at h
  unfold eventState
  split at h <;> simp_all [txSettleEvent]

/-- Everything a timer read of `SampleAt` can do. -/
theorem rxWaitEvent_cases (q : Nat) (wrapped : State → State) (ready : Ctl) (s : State) :
    rxWaitEvent q wrapped ready s = wrapped (readNow s).2 ∨
    rxWaitEvent q wrapped ready s = { (readNow s).2 with ctl := ready } ∨
    rxWaitEvent q wrapped ready s = (readNow s).2 := by
  unfold rxWaitEvent
  split <;> simp

/-! A step. -/

theorem fetch_next {s s' : State} {p : Presented} (h : fetch s = some (p, s')) :
    s.port = some p ∧ s' = { s with port := none } ∨
    s.port = none ∧ s.reqBusy = false ∧ ∃ rest, s.program = p :: rest ∧ s' = { s with program := rest } := by
  unfold fetch at h
  split at h
  · rename_i q hq
    simp at h
    exact .inl ⟨by simp [hq, h.1], h.2.symm⟩
  · split at h
    · simp at h
    · rename_i hb
      split at h
      · rename_i q rest hp
        simp at h
        exact .inr ⟨‹_›, by simpa using hb, rest, by simp [hp, h.1], h.2.symm⟩
      · simp at h

/-- Everything a step can do, if it answers next. -/
theorem step_next {s t : State} (h : step s = .next t) :
    (∃ p s' i, fetch s = some (p, s') ∧ p.instr = .ok i ∧ exec i s' = .next t) ∨
    fetch s = none ∧ s.reqBusy = true ∧ event s = .next t ∨
    fetch s = none ∧ s.reqBusy = false ∧ t = s := by
  unfold step at h
  split at h
  · rename_i p s' hf
    split at h
    · rename_i i hd
      exact .inl ⟨p, s', i, hf, hd, h⟩
    · simp at h
  · rename_i hf
    split at h
    · exact .inr (.inl ⟨hf, ‹_›, h⟩)
    · rename_i hb
      exact .inr (.inr ⟨hf, by simpa using hb, by simpa using h.symm⟩)

end Sys2Proof.Machine
end

