-- ==== Sys2Proof/Laws/PerInstr.lean ====
section
/-! SUPPORT. The per-instruction law FixedBits: what presents a well-formed instruction carries the fixed bits its row of spec/opcode_table.json has. -/

namespace Sys2Proof.Laws.FixedBits

/-- The fixed bits of a row: the op of a request, or mask and match of the header and data bytes of
a frame. -/
inductive Row where
  | op (code : BitVec 4)
  | frame (headerMask headerMatch dataMask dataMatch : Byte)

/-- The row of spec/opcode_table.json of each instruction (its "match" and "mask"). -/
def row : Instr → Row
  | .setup _ _ _ _ _ _ => .op 0x0
  | .arc _ _ _ => .op 0x1
  | .send _ _ _ _ => .op 0x2
  | .transmit _ => .op 0x3
  | .receive => .op 0x4
  | .classify _ => .op 0x5
  | .tmode _ => .op 0x6
  | .encArc _ _ _ => .op 0x7
  | .encCmd _ _ _ => .op 0x8
  | .encParam _ _ _ _ => .op 0x9
  | .encSpecial _ _ => .op 0xA
  | .directArcS _ _ => .frame 0x81 0x00 0x00 0x00
  | .directArcG _ _ => .frame 0xE1 0x80 0x00 0x00
  | .directArcB _ => .frame 0xFF 0xFE 0x00 0x00
  | .off _ _ => .frame 0x01 0x01 0xFF 0x00
  | .up _ _ => .frame 0x01 0x01 0xFF 0x01
  | .down _ _ => .frame 0x01 0x01 0xFF 0x02
  | .stepUp _ _ => .frame 0x01 0x01 0xFF 0x03
  | .stepDown _ _ => .frame 0x01 0x01 0xFF 0x04
  | .recallMaxLevel _ _ => .frame 0x01 0x01 0xFF 0x05
  | .recallMinLevel _ _ => .frame 0x01 0x01 0xFF 0x06
  | .stepDownAndOff _ _ => .frame 0x01 0x01 0xFF 0x07
  | .onAndStepUp _ _ => .frame 0x01 0x01 0xFF 0x08
  | .reset _ _ => .frame 0x01 0x01 0xFF 0x20
  | .storeActualLevelInDtr _ _ => .frame 0x01 0x01 0xFF 0x21
  | .storeDtrAsMaxLevel _ _ => .frame 0x01 0x01 0xFF 0x2A
  | .storeDtrAsMinLevel _ _ => .frame 0x01 0x01 0xFF 0x2B
  | .storeDtrAsSystemFailureLevel _ _ => .frame 0x01 0x01 0xFF 0x2C
  | .storeDtrAsPowerOnLevel _ _ => .frame 0x01 0x01 0xFF 0x2D
  | .storeDtrAsFadeTime _ _ => .frame 0x01 0x01 0xFF 0x2E
  | .storeDtrAsFadeRate _ _ => .frame 0x01 0x01 0xFF 0x2F
  | .queryStatus _ _ => .frame 0x01 0x01 0xFF 0x90
  | .queryBallast _ _ => .frame 0x01 0x01 0xFF 0x91
  | .queryLampFailure _ _ => .frame 0x01 0x01 0xFF 0x92
  | .queryLampPowerOn _ _ => .frame 0x01 0x01 0xFF 0x93
  | .queryLimitError _ _ => .frame 0x01 0x01 0xFF 0x94
  | .queryResetState _ _ => .frame 0x01 0x01 0xFF 0x95
  | .queryMissingShortAddress _ _ => .frame 0x01 0x01 0xFF 0x96
  | .queryVersionNumber _ _ => .frame 0x01 0x01 0xFF 0x97
  | .queryContentDtr _ _ => .frame 0x01 0x01 0xFF 0x98
  | .queryDeviceType _ _ => .frame 0x01 0x01 0xFF 0x99
  | .queryPhysicalMinimumLevel _ _ => .frame 0x01 0x01 0xFF 0x9A
  | .queryPowerFailure _ _ => .frame 0x01 0x01 0xFF 0x9B
  | .goToScene _ _ _ => .frame 0x01 0x01 0xF0 0x10
  | .storeDtrAsScene _ _ _ => .frame 0x01 0x01 0xF0 0x40
  | .removeFromScene _ _ _ => .frame 0x01 0x01 0xF0 0x50
  | .addToGroup _ _ _ => .frame 0x01 0x01 0xF0 0x60
  | .removeFromGroup _ _ _ => .frame 0x01 0x01 0xF0 0x70
  | .querySceneLevel _ _ _ => .frame 0x01 0x01 0xF0 0xB0
  | .terminate _ => .frame 0xFF 0xA1 0xFF 0x00
  | .dataTransferRegister _ => .frame 0xFF 0xA3 0x00 0x00
  | .initialise _ => .frame 0xFF 0xA5 0x00 0x00
  | .randomise _ => .frame 0xFF 0xA7 0xFF 0x00
  | .compare _ => .frame 0xFF 0xA9 0xFF 0x00
  | .withdraw _ => .frame 0xFF 0xAB 0xFF 0x00
  | .searchaddrh _ => .frame 0xFF 0xB1 0x00 0x00
  | .searchaddrm _ => .frame 0xFF 0xB3 0x00 0x00
  | .searchaddrl _ => .frame 0xFF 0xB5 0x00 0x00
  | .programShortAddress _ => .frame 0xFF 0xB7 0x81 0x01
  | .verifyShortAddress _ => .frame 0xFF 0xB9 0x81 0x01
  | .queryShortAddress _ => .frame 0xFF 0xBB 0xFF 0x00
  | .physicalSelection _ => .frame 0xFF 0xBD 0xFF 0x00
  | .enableDeviceTypeX _ => .frame 0xFF 0xC1 0x00 0x00

/-- The row's fixed bits stand in what is presented. -/
def Row.carries : Row → TableWord → Prop
  | .op code, .request r => r.op = code
  | .frame hm h dm d, .frame f => frameHeader f &&& hm = h ∧ frameData f &&& dm = d
  | _, _ => False

/-- The law, of one instruction. -/
def Statement (i : Instr) : Prop := WellFormed i = true → (row i).carries (encode i)

theorem command_carries {hm h dm d v : Byte} (mode : Mode) (a : Byte)
    (hh : headerByte mode a true &&& hm = h) (hd : v &&& dm = d) :
    (Row.frame hm h dm d).carries (commandFrame mode a v) := by
  simp [Row.carries, commandFrame, hh, hd]

theorem arc_carries {hm h : Byte} (mode : Mode) (a b : Byte) (hh : headerByte mode a false &&& hm = h) :
    (Row.frame hm h 0x00 0x00).carries (arcFrame mode a b) := by
  simp [Row.carries, arcFrame, hh]

theorem special_carries {h dm d v : Byte} (rule : DataRule) (hd : specialData rule v &&& dm = d) :
    (Row.frame 0xFF h dm d).carries (specialFrame h rule v) := by
  have hf := byte_and_ff h
  simp only [Row.carries, specialFrame, frameHeader_mkFrame, frameData_mkFrame]
  exact ⟨hf, hd⟩

theorem plain_carries (mode : Mode) (a v : Byte) : (Row.frame 0x01 0x01 0xFF v).carries (commandFrame mode a v) :=
  command_carries mode a (headerByte_selector mode a) (byte_and_ff v)

theorem param_carries (mode : Mode) (a c p : Byte) (hc : c &&& 0xF0 = c) (hp : p.toNat ≤ 15) :
    (Row.frame 0x01 0x01 0xF0 c).carries (commandFrame mode a (c ||| p)) :=
  command_carries mode a (headerByte_selector mode a) (paramByte_opcode c p hc hp)

theorem setup (baud : Word32) (txbits rxbits stop txpin rxpin : Byte) : Statement (.setup baud txbits rxbits stop txpin rxpin) := fun _ => rfl
theorem arc (mode : Mode) (address brightness : Byte) : Statement (.arc mode address brightness) := fun _ => rfl
theorem send (mode : Mode) (command address param : Byte) : Statement (.send mode command address param) := fun _ => rfl
theorem transmit (value : BitVec 16) : Statement (.transmit value) := fun _ => rfl
theorem receive : Statement (.receive) := fun _ => rfl
theorem classify (command : Byte) : Statement (.classify command) := fun _ => rfl
theorem tmode (command : Byte) : Statement (.tmode command) := fun _ => rfl
theorem encArc (mode : Mode) (address brightness : Byte) : Statement (.encArc mode address brightness) := fun _ => rfl
theorem encCmd (mode : Mode) (address command : Byte) : Statement (.encCmd mode address command) := fun _ => rfl
theorem encParam (mode : Mode) (address command param : Byte) : Statement (.encParam mode address command param) := fun _ => rfl
theorem encSpecial (command data : Byte) : Statement (.encSpecial command data) := fun _ => rfl
theorem directArcS (address brightness : Byte) : Statement (.directArcS address brightness) :=
  fun _ => arc_carries .slave address brightness (slave_arc_header address)
theorem directArcG (address brightness : Byte) : Statement (.directArcG address brightness) :=
  fun _ => arc_carries .group address brightness (group_arc_header address)
theorem directArcB (brightness : Byte) : Statement (.directArcB brightness) :=
  fun _ => arc_carries .broadcast 0 brightness (by decide)
theorem off (mode : Mode) (address : Byte) : Statement (.off mode address) :=
  fun _ => plain_carries mode address _
theorem up (mode : Mode) (address : Byte) : Statement (.up mode address) :=
  fun _ => plain_carries mode address _
theorem down (mode : Mode) (address : Byte) : Statement (.down mode address) :=
  fun _ => plain_carries mode address _
theorem stepUp (mode : Mode) (address : Byte) : Statement (.stepUp mode address) :=
  fun _ => plain_carries mode address _
theorem stepDown (mode : Mode) (address : Byte) : Statement (.stepDown mode address) :=
  fun _ => plain_carries mode address _
theorem recallMaxLevel (mode : Mode) (address : Byte) : Statement (.recallMaxLevel mode address) :=
  fun _ => plain_carries mode address _
theorem recallMinLevel (mode : Mode) (address : Byte) : Statement (.recallMinLevel mode address) :=
  fun _ => plain_carries mode address _
theorem stepDownAndOff (mode : Mode) (address : Byte) : Statement (.stepDownAndOff mode address) :=
  fun _ => plain_carries mode address _
theorem onAndStepUp (mode : Mode) (address : Byte) : Statement (.onAndStepUp mode address) :=
  fun _ => plain_carries mode address _
theorem reset (mode : Mode) (address : Byte) : Statement (.reset mode address) :=
  fun _ => plain_carries mode address _
theorem storeActualLevelInDtr (mode : Mode) (address : Byte) : Statement (.storeActualLevelInDtr mode address) :=
  fun _ => plain_carries mode address _
theorem storeDtrAsMaxLevel (mode : Mode) (address : Byte) : Statement (.storeDtrAsMaxLevel mode address) :=
  fun _ => plain_carries mode address _
theorem storeDtrAsMinLevel (mode : Mode) (address : Byte) : Statement (.storeDtrAsMinLevel mode address) :=
  fun _ => plain_carries mode address _
theorem storeDtrAsSystemFailureLevel (mode : Mode) (address : Byte) : Statement (.storeDtrAsSystemFailureLevel mode address) :=
  fun _ => plain_carries mode address _
theorem storeDtrAsPowerOnLevel (mode : Mode) (address : Byte) : Statement (.storeDtrAsPowerOnLevel mode address) :=
  fun _ => plain_carries mode address _
theorem storeDtrAsFadeTime (mode : Mode) (address : Byte) : Statement (.storeDtrAsFadeTime mode address) :=
  fun _ => plain_carries mode address _
theorem storeDtrAsFadeRate (mode : Mode) (address : Byte) : Statement (.storeDtrAsFadeRate mode address) :=
  fun _ => plain_carries mode address _
theorem queryStatus (mode : Mode) (address : Byte) : Statement (.queryStatus mode address) :=
  fun _ => plain_carries mode address _
theorem queryBallast (mode : Mode) (address : Byte) : Statement (.queryBallast mode address) :=
  fun _ => plain_carries mode address _
theorem queryLampFailure (mode : Mode) (address : Byte) : Statement (.queryLampFailure mode address) :=
  fun _ => plain_carries mode address _
theorem queryLampPowerOn (mode : Mode) (address : Byte) : Statement (.queryLampPowerOn mode address) :=
  fun _ => plain_carries mode address _
theorem queryLimitError (mode : Mode) (address : Byte) : Statement (.queryLimitError mode address) :=
  fun _ => plain_carries mode address _
theorem queryResetState (mode : Mode) (address : Byte) : Statement (.queryResetState mode address) :=
  fun _ => plain_carries mode address _
theorem queryMissingShortAddress (mode : Mode) (address : Byte) : Statement (.queryMissingShortAddress mode address) :=
  fun _ => plain_carries mode address _
theorem queryVersionNumber (mode : Mode) (address : Byte) : Statement (.queryVersionNumber mode address) :=
  fun _ => plain_carries mode address _
theorem queryContentDtr (mode : Mode) (address : Byte) : Statement (.queryContentDtr mode address) :=
  fun _ => plain_carries mode address _
theorem queryDeviceType (mode : Mode) (address : Byte) : Statement (.queryDeviceType mode address) :=
  fun _ => plain_carries mode address _
theorem queryPhysicalMinimumLevel (mode : Mode) (address : Byte) : Statement (.queryPhysicalMinimumLevel mode address) :=
  fun _ => plain_carries mode address _
theorem queryPowerFailure (mode : Mode) (address : Byte) : Statement (.queryPowerFailure mode address) :=
  fun _ => plain_carries mode address _
theorem goToScene (mode : Mode) (address param : Byte) : Statement (.goToScene mode address param) :=
  fun h => param_carries mode address _ param (by decide) (wellFormed_param h)
theorem storeDtrAsScene (mode : Mode) (address param : Byte) : Statement (.storeDtrAsScene mode address param) :=
  fun h => param_carries mode address _ param (by decide) (wellFormed_param h)
theorem removeFromScene (mode : Mode) (address param : Byte) : Statement (.removeFromScene mode address param) :=
  fun h => param_carries mode address _ param (by decide) (wellFormed_param h)
theorem addToGroup (mode : Mode) (address param : Byte) : Statement (.addToGroup mode address param) :=
  fun h => param_carries mode address _ param (by decide) (wellFormed_param h)
theorem removeFromGroup (mode : Mode) (address param : Byte) : Statement (.removeFromGroup mode address param) :=
  fun h => param_carries mode address _ param (by decide) (wellFormed_param h)
theorem querySceneLevel (mode : Mode) (address param : Byte) : Statement (.querySceneLevel mode address param) :=
  fun h => param_carries mode address _ param (by decide) (wellFormed_param h)
theorem terminate (data : Byte) : Statement (.terminate data) := fun _ => special_carries .zero (zero_fixed data)
theorem dataTransferRegister (data : Byte) : Statement (.dataTransferRegister data) := fun _ => special_carries .data (byte_and_zero data)
theorem initialise (data : Byte) : Statement (.initialise data) := fun _ => special_carries .data (byte_and_zero data)
theorem randomise (data : Byte) : Statement (.randomise data) := fun _ => special_carries .zero (zero_fixed data)
theorem compare (data : Byte) : Statement (.compare data) := fun _ => special_carries .zero (zero_fixed data)
theorem withdraw (data : Byte) : Statement (.withdraw data) := fun _ => special_carries .zero (zero_fixed data)
theorem searchaddrh (data : Byte) : Statement (.searchaddrh data) := fun _ => special_carries .data (byte_and_zero data)
theorem searchaddrm (data : Byte) : Statement (.searchaddrm data) := fun _ => special_carries .data (byte_and_zero data)
theorem searchaddrl (data : Byte) : Statement (.searchaddrl data) := fun _ => special_carries .data (byte_and_zero data)
theorem programShortAddress (data : Byte) : Statement (.programShortAddress data) := fun _ => special_carries .addr6 (addr6_fixed data)
theorem verifyShortAddress (data : Byte) : Statement (.verifyShortAddress data) := fun _ => special_carries .addr6 (addr6_fixed data)
theorem queryShortAddress (data : Byte) : Statement (.queryShortAddress data) := fun _ => special_carries .zero (zero_fixed data)
theorem physicalSelection (data : Byte) : Statement (.physicalSelection data) := fun _ => special_carries .zero (zero_fixed data)
theorem enableDeviceTypeX (data : Byte) : Statement (.enableDeviceTypeX data) := fun _ => special_carries .data (byte_and_zero data)

end Sys2Proof.Laws.FixedBits
end

