-- ==== Sys2Proof/Tests/Slice0.lean ====
section
/-! SUPPORT. The model's own tests: ill-formed terms, decoded words written out from the spec's encodings, single steps with results from 95_test_vectors.md, and a witness for the hypotheses of every obligation that has some. -/

namespace Sys2Proof.Tests

open Sys2Proof.Machine Sys2Proof.Safety

/-! Well-formedness: each check refuses an ill-formed term (30_encoding.md R84 to R88, R94, R95). -/

theorem test_wf_slave_address_64 : WellFormed (.off .slave 64) = false ∧ WellFormed (.off .slave 63) = true := by decide

theorem test_wf_group_address_16 : WellFormed (.queryStatus .group 16) = false ∧ WellFormed (.queryStatus .group 15) = true := by
  decide

theorem test_wf_broadcast_address_1 : WellFormed (.reset .broadcast 1) = false ∧ WellFormed (.reset .broadcast 0) = true := by
  decide

theorem test_wf_param_16 : WellFormed (.goToScene .slave 0 16) = false ∧ WellFormed (.goToScene .slave 0 15) = true := by
  decide

theorem test_wf_param_row_address_64 : WellFormed (.addToGroup .slave 64 0) = false ∧ WellFormed (.addToGroup .group 16 0) = false := by
  decide

theorem test_wf_direct_arc_slave_64 : WellFormed (.directArcS 64 0) = false ∧ WellFormed (.directArcS 63 255) = true := by
  decide

theorem test_wf_direct_arc_group_16 : WellFormed (.directArcG 16 0) = false ∧ WellFormed (.directArcG 15 255) = true := by
  decide

theorem test_wf_zero_rule_data_1 : WellFormed (.terminate 1) = false ∧ WellFormed (.terminate 0) = true := by decide

theorem test_wf_addr6_rule_data_64 :
    WellFormed (.programShortAddress 64) = false ∧ WellFormed (.programShortAddress 63) = true := by
  decide

/-! Decoding the requests: the op in bits 3..0 (30_encoding.md R100), the record's bytes as log 4 numbers
them. -/

theorem test_decode_setup : decodeTableWord 136 0x403020810000004B00000000000000000 = some (.setup 1200 16 8 2 3 4) := by decide

theorem test_decode_arc : decodeTableWord 32 0x80020101 = some (.arc .group 2 128) := by decide

theorem test_decode_send : decodeTableWord 48 0x72000000202 = some (.send .broadcast 0x20 0 7) := by decide

theorem test_decode_transmit : decodeTableWord 64 0xA501000000000003 = some (.transmit 0xA501) := by decide

theorem test_decode_receive : decodeTableWord 8 0x4 = some (.receive) := by decide

theorem test_decode_classify : decodeTableWord 40 0xA500000005 = some (.classify 0xA5) := by decide

theorem test_decode_tmode : decodeTableWord 40 0x2000000006 = some (.tmode 0x20) := by decide

theorem test_decode_enc_arc : decodeTableWord 32 0x64050007 = some (.encArc .slave 5 100) := by decide

theorem test_decode_enc_cmd : decodeTableWord 40 0x20000F0108 = some (.encCmd .group 15 0x20) := by decide

theorem test_decode_enc_param : decodeTableWord 48 0x76000020109 = some (.encParam .group 2 0x60 7) := by decide

theorem test_decode_enc_special : decodeTableWord 48 0x5B70000000A = some (.encSpecial 0xB7 5) := by decide

/-! Decoding the frame rows: the header in bits 15..8, the data byte in bits 7..0 (30_encoding.md section 1). -/

theorem test_decode_direct_arc_s :
    decodeTableWord 16 0b0010101001100100 = some (.directArcS 21 100) ∧
    decodeTableWord 16 0b0111111011111111 = some (.directArcS 63 255) := by
  decide

theorem test_decode_direct_arc_g :
    decodeTableWord 16 0b1001010010000000 = some (.directArcG 10 128) ∧
    decodeTableWord 16 0b1001111000000001 = some (.directArcG 15 1) := by
  decide

theorem test_decode_direct_arc_b :
    decodeTableWord 16 0b1111111010000000 = some (.directArcB 128) ∧
    decodeTableWord 16 0b1111111000000000 = some (.directArcB 0) := by
  decide

theorem test_decode_off :
    decodeTableWord 16 0b0010101100000000 = some (.off .slave 21) ∧
    decodeTableWord 16 0b1001010100000000 = some (.off .group 10) ∧
    decodeTableWord 16 0b1111111100000000 = some (.off .broadcast 0) := by
  decide

theorem test_decode_up :
    decodeTableWord 16 0b0010101100000001 = some (.up .slave 21) ∧
    decodeTableWord 16 0b1001010100000001 = some (.up .group 10) ∧
    decodeTableWord 16 0b1111111100000001 = some (.up .broadcast 0) := by
  decide

theorem test_decode_down :
    decodeTableWord 16 0b0010101100000010 = some (.down .slave 21) ∧
    decodeTableWord 16 0b1001010100000010 = some (.down .group 10) ∧
    decodeTableWord 16 0b1111111100000010 = some (.down .broadcast 0) := by
  decide

theorem test_decode_step_up :
    decodeTableWord 16 0b0010101100000011 = some (.stepUp .slave 21) ∧
    decodeTableWord 16 0b1001010100000011 = some (.stepUp .group 10) ∧
    decodeTableWord 16 0b1111111100000011 = some (.stepUp .broadcast 0) := by
  decide

theorem test_decode_step_down :
    decodeTableWord 16 0b0010101100000100 = some (.stepDown .slave 21) ∧
    decodeTableWord 16 0b1001010100000100 = some (.stepDown .group 10) ∧
    decodeTableWord 16 0b1111111100000100 = some (.stepDown .broadcast 0) := by
  decide

theorem test_decode_recall_max_level :
    decodeTableWord 16 0b0010101100000101 = some (.recallMaxLevel .slave 21) ∧
    decodeTableWord 16 0b1001010100000101 = some (.recallMaxLevel .group 10) ∧
    decodeTableWord 16 0b1111111100000101 = some (.recallMaxLevel .broadcast 0) := by
  decide

theorem test_decode_recall_min_level :
    decodeTableWord 16 0b0010101100000110 = some (.recallMinLevel .slave 21) ∧
    decodeTableWord 16 0b1001010100000110 = some (.recallMinLevel .group 10) ∧
    decodeTableWord 16 0b1111111100000110 = some (.recallMinLevel .broadcast 0) := by
  decide

theorem test_decode_step_down_and_off :
    decodeTableWord 16 0b0010101100000111 = some (.stepDownAndOff .slave 21) ∧
    decodeTableWord 16 0b1001010100000111 = some (.stepDownAndOff .group 10) ∧
    decodeTableWord 16 0b1111111100000111 = some (.stepDownAndOff .broadcast 0) := by
  decide

theorem test_decode_on_and_step_up :
    decodeTableWord 16 0b0010101100001000 = some (.onAndStepUp .slave 21) ∧
    decodeTableWord 16 0b1001010100001000 = some (.onAndStepUp .group 10) ∧
    decodeTableWord 16 0b1111111100001000 = some (.onAndStepUp .broadcast 0) := by
  decide

theorem test_decode_reset :
    decodeTableWord 16 0b0010101100100000 = some (.reset .slave 21) ∧
    decodeTableWord 16 0b1001010100100000 = some (.reset .group 10) ∧
    decodeTableWord 16 0b1111111100100000 = some (.reset .broadcast 0) := by
  decide

theorem test_decode_store_actual_level_in_dtr :
    decodeTableWord 16 0b0010101100100001 = some (.storeActualLevelInDtr .slave 21) ∧
    decodeTableWord 16 0b1001010100100001 = some (.storeActualLevelInDtr .group 10) ∧
    decodeTableWord 16 0b1111111100100001 = some (.storeActualLevelInDtr .broadcast 0) := by
  decide

theorem test_decode_store_dtr_as_max_level :
    decodeTableWord 16 0b0010101100101010 = some (.storeDtrAsMaxLevel .slave 21) ∧
    decodeTableWord 16 0b1001010100101010 = some (.storeDtrAsMaxLevel .group 10) ∧
    decodeTableWord 16 0b1111111100101010 = some (.storeDtrAsMaxLevel .broadcast 0) := by
  decide

theorem test_decode_store_dtr_as_min_level :
    decodeTableWord 16 0b0010101100101011 = some (.storeDtrAsMinLevel .slave 21) ∧
    decodeTableWord 16 0b1001010100101011 = some (.storeDtrAsMinLevel .group 10) ∧
    decodeTableWord 16 0b1111111100101011 = some (.storeDtrAsMinLevel .broadcast 0) := by
  decide

theorem test_decode_store_dtr_as_system_failure_level :
    decodeTableWord 16 0b0010101100101100 = some (.storeDtrAsSystemFailureLevel .slave 21) ∧
    decodeTableWord 16 0b1001010100101100 = some (.storeDtrAsSystemFailureLevel .group 10) ∧
    decodeTableWord 16 0b1111111100101100 = some (.storeDtrAsSystemFailureLevel .broadcast 0) := by
  decide

theorem test_decode_store_dtr_as_power_on_level :
    decodeTableWord 16 0b0010101100101101 = some (.storeDtrAsPowerOnLevel .slave 21) ∧
    decodeTableWord 16 0b1001010100101101 = some (.storeDtrAsPowerOnLevel .group 10) ∧
    decodeTableWord 16 0b1111111100101101 = some (.storeDtrAsPowerOnLevel .broadcast 0) := by
  decide

theorem test_decode_store_dtr_as_fade_time :
    decodeTableWord 16 0b0010101100101110 = some (.storeDtrAsFadeTime .slave 21) ∧
    decodeTableWord 16 0b1001010100101110 = some (.storeDtrAsFadeTime .group 10) ∧
    decodeTableWord 16 0b1111111100101110 = some (.storeDtrAsFadeTime .broadcast 0) := by
  decide

theorem test_decode_store_dtr_as_fade_rate :
    decodeTableWord 16 0b0010101100101111 = some (.storeDtrAsFadeRate .slave 21) ∧
    decodeTableWord 16 0b1001010100101111 = some (.storeDtrAsFadeRate .group 10) ∧
    decodeTableWord 16 0b1111111100101111 = some (.storeDtrAsFadeRate .broadcast 0) := by
  decide

theorem test_decode_query_status :
    decodeTableWord 16 0b0010101110010000 = some (.queryStatus .slave 21) ∧
    decodeTableWord 16 0b1001010110010000 = some (.queryStatus .group 10) ∧
    decodeTableWord 16 0b1111111110010000 = some (.queryStatus .broadcast 0) := by
  decide

theorem test_decode_query_ballast :
    decodeTableWord 16 0b0010101110010001 = some (.queryBallast .slave 21) ∧
    decodeTableWord 16 0b1001010110010001 = some (.queryBallast .group 10) ∧
    decodeTableWord 16 0b1111111110010001 = some (.queryBallast .broadcast 0) := by
  decide

theorem test_decode_query_lamp_failure :
    decodeTableWord 16 0b0010101110010010 = some (.queryLampFailure .slave 21) ∧
    decodeTableWord 16 0b1001010110010010 = some (.queryLampFailure .group 10) ∧
    decodeTableWord 16 0b1111111110010010 = some (.queryLampFailure .broadcast 0) := by
  decide

theorem test_decode_query_lamp_power_on :
    decodeTableWord 16 0b0010101110010011 = some (.queryLampPowerOn .slave 21) ∧
    decodeTableWord 16 0b1001010110010011 = some (.queryLampPowerOn .group 10) ∧
    decodeTableWord 16 0b1111111110010011 = some (.queryLampPowerOn .broadcast 0) := by
  decide

theorem test_decode_query_limit_error :
    decodeTableWord 16 0b0010101110010100 = some (.queryLimitError .slave 21) ∧
    decodeTableWord 16 0b1001010110010100 = some (.queryLimitError .group 10) ∧
    decodeTableWord 16 0b1111111110010100 = some (.queryLimitError .broadcast 0) := by
  decide

theorem test_decode_query_reset_state :
    decodeTableWord 16 0b0010101110010101 = some (.queryResetState .slave 21) ∧
    decodeTableWord 16 0b1001010110010101 = some (.queryResetState .group 10) ∧
    decodeTableWord 16 0b1111111110010101 = some (.queryResetState .broadcast 0) := by
  decide

theorem test_decode_query_missing_short_address :
    decodeTableWord 16 0b0010101110010110 = some (.queryMissingShortAddress .slave 21) ∧
    decodeTableWord 16 0b1001010110010110 = some (.queryMissingShortAddress .group 10) ∧
    decodeTableWord 16 0b1111111110010110 = some (.queryMissingShortAddress .broadcast 0) := by
  decide

theorem test_decode_query_version_number :
    decodeTableWord 16 0b0010101110010111 = some (.queryVersionNumber .slave 21) ∧
    decodeTableWord 16 0b1001010110010111 = some (.queryVersionNumber .group 10) ∧
    decodeTableWord 16 0b1111111110010111 = some (.queryVersionNumber .broadcast 0) := by
  decide

theorem test_decode_query_content_dtr :
    decodeTableWord 16 0b0010101110011000 = some (.queryContentDtr .slave 21) ∧
    decodeTableWord 16 0b1001010110011000 = some (.queryContentDtr .group 10) ∧
    decodeTableWord 16 0b1111111110011000 = some (.queryContentDtr .broadcast 0) := by
  decide

theorem test_decode_query_device_type :
    decodeTableWord 16 0b0010101110011001 = some (.queryDeviceType .slave 21) ∧
    decodeTableWord 16 0b1001010110011001 = some (.queryDeviceType .group 10) ∧
    decodeTableWord 16 0b1111111110011001 = some (.queryDeviceType .broadcast 0) := by
  decide

theorem test_decode_query_physical_minimum_level :
    decodeTableWord 16 0b0010101110011010 = some (.queryPhysicalMinimumLevel .slave 21) ∧
    decodeTableWord 16 0b1001010110011010 = some (.queryPhysicalMinimumLevel .group 10) ∧
    decodeTableWord 16 0b1111111110011010 = some (.queryPhysicalMinimumLevel .broadcast 0) := by
  decide

theorem test_decode_query_power_failure :
    decodeTableWord 16 0b0010101110011011 = some (.queryPowerFailure .slave 21) ∧
    decodeTableWord 16 0b1001010110011011 = some (.queryPowerFailure .group 10) ∧
    decodeTableWord 16 0b1111111110011011 = some (.queryPowerFailure .broadcast 0) := by
  decide

theorem test_decode_go_to_scene :
    decodeTableWord 16 0b0010101100011010 = some (.goToScene .slave 21 10) ∧
    decodeTableWord 16 0b1001010100010101 = some (.goToScene .group 10 5) ∧
    decodeTableWord 16 0b1111111100011111 = some (.goToScene .broadcast 0 15) := by
  decide

theorem test_decode_store_dtr_as_scene :
    decodeTableWord 16 0b0010101101001010 = some (.storeDtrAsScene .slave 21 10) ∧
    decodeTableWord 16 0b1001010101000101 = some (.storeDtrAsScene .group 10 5) ∧
    decodeTableWord 16 0b1111111101001111 = some (.storeDtrAsScene .broadcast 0 15) := by
  decide

theorem test_decode_remove_from_scene :
    decodeTableWord 16 0b0010101101011010 = some (.removeFromScene .slave 21 10) ∧
    decodeTableWord 16 0b1001010101010101 = some (.removeFromScene .group 10 5) ∧
    decodeTableWord 16 0b1111111101011111 = some (.removeFromScene .broadcast 0 15) := by
  decide

theorem test_decode_add_to_group :
    decodeTableWord 16 0b0010101101101010 = some (.addToGroup .slave 21 10) ∧
    decodeTableWord 16 0b1001010101100101 = some (.addToGroup .group 10 5) ∧
    decodeTableWord 16 0b1111111101101111 = some (.addToGroup .broadcast 0 15) := by
  decide

theorem test_decode_remove_from_group :
    decodeTableWord 16 0b0010101101111010 = some (.removeFromGroup .slave 21 10) ∧
    decodeTableWord 16 0b1001010101110101 = some (.removeFromGroup .group 10 5) ∧
    decodeTableWord 16 0b1111111101111111 = some (.removeFromGroup .broadcast 0 15) := by
  decide

theorem test_decode_query_scene_level :
    decodeTableWord 16 0b0010101110111010 = some (.querySceneLevel .slave 21 10) ∧
    decodeTableWord 16 0b1001010110110101 = some (.querySceneLevel .group 10 5) ∧
    decodeTableWord 16 0b1111111110111111 = some (.querySceneLevel .broadcast 0 15) := by
  decide

theorem test_decode_terminate :
    decodeTableWord 16 0b1010000100000000 = some (.terminate 0) := by
  decide

theorem test_decode_data_transfer_register :
    decodeTableWord 16 0b1010001110100110 = some (.dataTransferRegister 0xA6) := by
  decide

theorem test_decode_initialise :
    decodeTableWord 16 0b1010010110100110 = some (.initialise 0xA6) := by
  decide

theorem test_decode_randomise :
    decodeTableWord 16 0b1010011100000000 = some (.randomise 0) := by
  decide

theorem test_decode_compare :
    decodeTableWord 16 0b1010100100000000 = some (.compare 0) := by
  decide

theorem test_decode_withdraw :
    decodeTableWord 16 0b1010101100000000 = some (.withdraw 0) := by
  decide

theorem test_decode_searchaddrh :
    decodeTableWord 16 0b1011000110100110 = some (.searchaddrh 0xA6) := by
  decide

theorem test_decode_searchaddrm :
    decodeTableWord 16 0b1011001110100110 = some (.searchaddrm 0xA6) := by
  decide

theorem test_decode_searchaddrl :
    decodeTableWord 16 0b1011010110100110 = some (.searchaddrl 0xA6) := by
  decide

theorem test_decode_program_short_address :
    decodeTableWord 16 0b1011011101010101 = some (.programShortAddress 42) ∧
    decodeTableWord 16 0b1011011101111111 = some (.programShortAddress 63) := by
  decide

theorem test_decode_verify_short_address :
    decodeTableWord 16 0b1011100101010101 = some (.verifyShortAddress 42) ∧
    decodeTableWord 16 0b1011100101111111 = some (.verifyShortAddress 63) := by
  decide

theorem test_decode_query_short_address :
    decodeTableWord 16 0b1011101100000000 = some (.queryShortAddress 0) := by
  decide

theorem test_decode_physical_selection :
    decodeTableWord 16 0b1011110100000000 = some (.physicalSelection 0) := by
  decide

theorem test_decode_enable_device_type_x :
    decodeTableWord 16 0b1100000110100110 = some (.enableDeviceTypeX 0xA6) := by
  decide

/-! Words that are no instruction (30_encoding.md R89, R90, R106; 60_exceptions.md R337). -/

theorem test_decode_unassigned_op : decodeTableWord 8 0xB = none ∧ decodeTableWord 8 0xF = none := by decide

theorem test_decode_mode_code_3 :
    decodeTableWord 24 0x000301 = none ∧ decodeTableWord 24 0x000309 = none := by
  decide

/-- E6: ENC_SPECIAL and CLASSIFY do not read the mode. -/
theorem test_decode_mode_code_3_unread :
    decodeTableWord 24 0x00030A = some (.encSpecial 0 0) ∧ decodeTableWord 24 0x000305 = some (.classify 0) := by
  decide

theorem test_decode_unassigned_headers :
    decodeTableWord 16 0xA000 = none ∧ decodeTableWord 16 0xFD00 = none ∧ decodeTableWord 16 0xC300 = none := by
  decide

theorem test_decode_no_table_command : decodeTableWord 16 0x0B09 = none ∧ decodeTableWord 16 0xFF30 = none := by decide

theorem test_decode_bad_special_data :
    decodeTableWord 16 0xA101 = none ∧ decodeTableWord 16 0xB70A = none ∧ decodeTableWord 16 0xB98B = none := by
  decide

/-! Small states. The open parameters are those of 95_test_vectors.md section 0 and 4. -/

/-- The parameters of the vectors. -/
def vectorParams (variant : TxVariant) (maxRetries : Option Nat) : Params where
  txVariant := variant
  txInvert := false
  txPull := .noPull
  rxPull := .pullUp
  maxRetries := maxRetries
  numPins := 16
  rxTimeoutUs := 10000
  rxLead := 1
  tables := defaultTables

/-- After reset, in the TimerWait variant. -/
def fresh : State := State.resetWith (vectorParams .timerWait none)

/-- After `SETUP 1200, 16, 8, 2, 4, 5`. -/
def configured (variant : TxVariant) : State :=
  { State.resetWith (vectorParams variant none) with
    cfgBaud := 1200, cfgTxbits := 16, cfgRxbits := 8, cfgStop := 2, cfgTxpin := 4, cfgRxpin := 5
    cfgValid := true, txLine := some .high }

/-- With given timer values, pin levels and interrupt tokens to come. -/
def given (nows : List Word32) (pins : List Level) (tokens : List Nat) (s : State) : State :=
  { s with env := { nows := nows, pins := pins, tokens := tokens, drawn := 0 } }

/-- The next state an outcome gives. -/
def nextState (o : Host.Outcome State Fault Refusal) : Option State :=
  match o with
  | .next t => some t
  | _ => none

/-- The response an outcome leaves. -/
def responseOf (o : Host.Outcome State Fault Refusal) : Option Response := (nextState o).bind (·.response)

/-- The events an outcome leaves, newest first. -/
def eventsOf (o : Host.Outcome State Fault Refusal) : Option (List Event) := (nextState o).map (·.trace)

/-- The frame the Dispatcher of the next state sends, and its transmit mode. -/
def sentBy (o : Host.Outcome State Fault Refusal) : Option (Frame × TxMode) :=
  (nextState o).map fun t => (t.dspFrame, t.dspTmode)

/-! Single steps, with the results of 95_test_vectors.md. -/

/-- A3, A4, A10, A13. -/
theorem test_enc_arc :
    responseOf (exec (.encArc .slave 63 255) fresh) = some ⟨.ok, 0x7EFE⟩ ∧
    responseOf (exec (.encArc .slave 64 100) fresh) = some ⟨.wrongAddress, 0⟩ ∧
    responseOf (exec (.encArc .broadcast 200 7) fresh) = some ⟨.ok, 0xFE07⟩ ∧
    responseOf (exec (.encArc .group 2 128) fresh) = some ⟨.ok, 0x8480⟩ := by
  decide

/-- C5, C13, C15, C16, C18. -/
theorem test_enc_cmd :
    responseOf (exec (.encCmd .group 15 0x20) fresh) = some ⟨.ok, 0x9F20⟩ ∧
    responseOf (exec (.encCmd .slave 5 0xB1) fresh) = some ⟨.ok, 0x0BB1⟩ ∧
    responseOf (exec (.encCmd .slave 5 0xE0) fresh) = some ⟨.ok, 0x0BE0⟩ ∧
    responseOf (exec (.encCmd .slave 64 0xDF) fresh) = some ⟨.reservedCommand, 0⟩ ∧
    responseOf (exec (.encCmd .slave 64 0x10) fresh) = some ⟨.wrongCommand, 0⟩ := by
  decide

/-- P2v, P4v, P5v, P8v. -/
theorem test_enc_param :
    responseOf (exec (.encParam .slave 5 0x10 15) fresh) = some ⟨.ok, 0x0B1F⟩ ∧
    responseOf (exec (.encParam .slave 64 0x10 16) fresh) = some ⟨.wrongCommand, 0⟩ ∧
    responseOf (exec (.encParam .slave 64 0x10 3) fresh) = some ⟨.wrongAddress, 0⟩ ∧
    responseOf (exec (.encParam .broadcast 99 0xB0 2) fresh) = some ⟨.ok, 0xFFB2⟩ := by
  decide

/-- X1, X2, X7, X12, X14. -/
theorem test_enc_special :
    responseOf (exec (.encSpecial 0xA1 0x12) fresh) = some ⟨.ok, 0xA100⟩ ∧
    responseOf (exec (.encSpecial 0xA3 0xFF) fresh) = some ⟨.ok, 0xA3FF⟩ ∧
    responseOf (exec (.encSpecial 0xB7 64) fresh) = some ⟨.wrongAddress, 0⟩ ∧
    responseOf (exec (.encSpecial 0xA2 0) fresh) = some ⟨.wrongCommand, 0⟩ ∧
    responseOf (exec (.encSpecial 0xB7 5) fresh) = some ⟨.ok, 0xB70B⟩ := by
  decide

/-- K1 to K3, K5. -/
theorem test_classify :
    responseOf (exec (.classify 0x00) fresh) = some ⟨.ok, 0⟩ ∧
    responseOf (exec (.classify 0x10) fresh) = some ⟨.ok, 1⟩ ∧
    responseOf (exec (.classify 0xA5) fresh) = some ⟨.ok, 2⟩ ∧
    responseOf (exec (.classify 0x30) fresh) = some ⟨.wrongCommand, 0⟩ := by
  decide

/-- K8, K11, K12, K14. -/
theorem test_tmode :
    responseOf (exec (.tmode 0x20) fresh) = some ⟨.ok, 1⟩ ∧
    responseOf (exec (.tmode 0xB9) fresh) = some ⟨.ok, 2⟩ ∧
    responseOf (exec (.tmode 0x09) fresh) = some ⟨.wrongCommand, 0⟩ ∧
    responseOf (exec (.tmode 0x10) fresh) = some ⟨.ok, 0⟩ := by
  decide

/-- U1: the first event, and the registers. -/
theorem test_setup_first_event :
    (nextState (exec (.setup 1200 16 8 2 4 5) fresh)).map (fun t => (t.trace, t.cfgBaud, t.cfgRxpin, t.cfgValid)) =
      some ([.setPinMode 4 .output .noPull], 1200, 5, true) := by
  decide

/-- U2, U3, U4, U5, U6, U8. -/
theorem test_setup_bad_config :
    [Instr.setup 0 16 8 2 4 5, .setup 500001 16 8 2 4 5, .setup 1200 17 8 2 4 5, .setup 1200 16 0 2 4 5,
      .setup 1200 16 8 3 4 5, .setup 1200 16 8 2 16 5].all
        (fun i => nextState (exec i fresh) == some (answered ⟨.badConfig, 0⟩ fresh)) = true := by
  decide

/-- D12, D13, D14. -/
theorem test_arc :
    sentBy (exec (.arc .slave 5 255) (configured .timerWait)) = some (0x0AFE, .simple) ∧
    responseOf (exec (.arc .group 16 1) (configured .timerWait)) = some ⟨.wrongAddress, 0⟩ ∧
    sentBy (exec (.arc .group 2 128) (configured .timerWait)) = some (0x8480, .simple) := by
  decide

/-- D1, D2, D3, D4. -/
theorem test_send :
    sentBy (exec (.send .broadcast 0x20 0 0) (configured .timerWait)) = some (0xFF20, .repeatTwice) ∧
    responseOf (exec (.send .slave 0x45 3 0) (configured .timerWait)) = some ⟨.wrongCommand, 0⟩ ∧
    sentBy (exec (.send .slave 0xB7 99 5) (configured .timerWait)) = some (0xB70B, .simple) ∧
    sentBy (exec (.send .group 0x60 2 7) (configured .timerWait)) = some (0x8567, .repeatTwice) := by
  decide

/-- T1, V-L1: the first event, the symbols of 0xA501 and the half-bit period. -/
theorem test_transmit :
    (nextState (exec (.transmit 0xA501) (configured .timerWait))).map (fun t => (t.trace, t.txHb, t.txNsym)) =
      some ([.writePin 4 .high], 416, 38) ∧
    (nextState (exec (.transmit 0xA501) (configured .timerWait))).map (fun t => t.txSeq.take 10) =
      some [.high, .low, .high, .low, .low, .high, .high, .low, .low, .high] := by
  decide

/-- RX1: the call time. RX10: before SETUP. -/
theorem test_receive :
    (nextState (exec .receive (given [1000] [] [] (configured .timerWait)))).map
      (fun t => (t.trace, t.rxTcall, t.rxState)) = some ([.now 1000], 1000, .edgeWait) ∧
    responseOf (exec .receive fresh) = some ⟨.notConfigured, 0⟩ := by
  decide

/-- D5, D8, D12 as frames (log 3): the frame sent is the frame presented, the level clamped. -/
theorem test_frame_rows :
    sentBy (exec (.queryStatus .slave 5) (configured .timerWait)) = some (0x0B90, .query) ∧
    sentBy (exec (.initialise 0) (configured .timerWait)) = some (0xA500, .repeatTwice) ∧
    sentBy (exec (.directArcS 5 255) (configured .timerWait)) = some (0x0AFE, .simple) ∧
    sentBy (exec (.addToGroup .group 2 7) (configured .timerWait)) = some (0x8567, .repeatTwice) := by
  decide

/-- D18: the guard closes with nothing between, and `CS_TOKEN` is as before the request (60_exceptions.md R335). -/
theorem test_busy_delay_error :
    eventsOf (exec (.arc .slave 64 1) (given [] [] [7] (configured .busyDelay))) = some [.intDisableSave 7] ∧
    (nextState (exec (.arc .slave 64 1) (given [] [] [7] (configured .busyDelay)))).bind
        (fun t => (nextState (step t)).map fun u => (u.trace, u.response, u.csActive, u.csToken)) =
      some ([.intRestore 7, .intDisableSave 7], some ⟨.wrongAddress, 0⟩, false, 0) := by
  decide

/-- RX6 and 42_line_receiver.md R261: a Wrap of the first sample goes on to the second one, whose Wrap ends the
request. -/
theorem test_sample_wrap :
    (nextState (event (given [5, 6] [] [] { configured .timerWait with reqBusy := true, rxTedge := 1100, ctl := .rxWaitA }))).bind
        (fun t => (nextState (event t)).map fun u => (t.ctl, u.trace, u.response)) =
      some (.rxWaitB none, [.now 6, .now 5], some ⟨.receiveTimeout, 0xFFFF⟩) := by
  decide

/-- R90 steps 2, 3 and 4. -/
theorem test_frame_formats :
    decodeFormat 0xA101 = .special 0xA1 1 ∧ decodeFormat 0x0B09 = .command .slave 5 0x09 ∧
    decodeFormat 0xA000 = .unassigned 0xA0 ∧ decodeFormat 0x9E01 = .arc .group 15 1 := by
  decide

/-! Coherent states in the middle of a request, for the witnesses. -/

/-- The decidable part of coherence, for a state with a request active outside the guard's ends. -/
def coherentHere (s : State) : Bool :=
  decide (s.reqBusy = true ∧ s.ctl ≠ .idle ∧ s.response = none ∧ s.cfgValid = true) &&
  setupLegal s.params.numPins s.cfgBaud s.cfgTxbits s.cfgRxbits s.cfgStop s.cfgTxpin s.cfgRxpin &&
  decide (transmitting s.ctl = true →
    s.txSeq = symSeq s.txValue s.cfgTxbits.toNat s.cfgStop.toNat ∧
    s.txNsym.toNat = symCount s.cfgTxbits.toNat s.cfgStop.toNat ∧ s.txHb = halfBit s.cfgBaud) &&
  decide (transmitting s.ctl = true → s.txSym.toNat < s.txNsym.toNat) &&
  decide (sendingSymbol s.ctl = true → s.txState = txPhase s.cfgTxbits.toNat s.txSym.toNat) &&
  decide (holdingSymbol s.ctl = true ∨ s.ctl = .txPause → s.txLine = s.txSeq[s.txSym.toNat]?) &&
  decide (s.ctl = .txSettle → s.txState = .settle ∧ s.txLine = some .high) &&
  decide (s.ctl = .txPause → s.txState = .retry ∧ s.params.txVariant = .timerWait) &&
  decide (transmitting s.ctl = false → s.txState = .idle) &&
  decide (s.ctl = .txHold → s.params.txVariant = .busyDelay) &&
  decide (s.ctl = .txStart ∨ s.ctl = .txPoll → s.params.txVariant = .timerWait) &&
  decide (s.params.txVariant = .busyDelay → transmitting s.ctl = true → s.txRetries = 0) &&
  decide (s.txNsym.toNat ≤ 38 ∧ s.txSym.toNat ≤ 37 ∧ s.txSeq.length = s.txNsym.toNat) &&
  decide (sampling s.ctl = true →
    s.rxK.toNat < windowCount s.cfgRxbits.toNat s.cfgStop.toNat ∧ s.rxState = rxPhase s.cfgRxbits.toNat s.rxK.toNat) &&
  decide (sampling s.ctl = true → s.rxShift.toNat < 2 ^ min s.rxK.toNat (2 * s.cfgRxbits.toNat)) &&
  decide (waitingForEdge s.ctl = true → s.rxState = .edgeWait) &&
  decide (waitingForEdge s.ctl = false → sampling s.ctl = false → s.rxState = .idle) &&
  decide (s.rxK.toNat ≤ 35) &&
  decide (transmitting s.ctl = true → s.dspState ≠ .gap) &&
  decide (s.ctl = .repeatGap → s.dspState = .gap) &&
  decide (transmitting s.ctl = false → s.ctl ≠ .repeatGap → s.dspState = .idle) &&
  decide (transmitting s.ctl = true → s.dspState ≠ .idle → s.txValue = s.dspFrame) &&
  decide (s.dspState = .gap ∨ s.dspState = .tx2 → s.dspTmode = .repeatTwice) &&
  decide (s.csActive = true ↔ s.params.txVariant = .busyDelay ∧ insideCs s.ctl = true)

theorem coherentHere_sound {s : State} (h : coherentHere s = true) (he : ∀ job, s.ctl ≠ .csEnter job)
    (hx : ∀ r prior, s.ctl ≠ .csExit r prior) : Coherent s := by
  simp only [coherentHere, Bool.and_eq_true, decide_eq_true_eq, and_assoc] at h
  obtain ⟨hb, hi, hr, hv, hc, t1, t2, t3, t4, t5, t6, t7, t8, t9, t10, t11, t12, t13, h⟩ := h
  obtain ⟨r1, r2, r3, r4, r5, d1, d2, d3, d4, d5, d6⟩ := h
  exact
    { config := fun _ => hc
      busy := by simp [hb, hi]
      unanswered := fun _ => hr
      legalAnswer := fun r hr' => by simp [hr] at hr'
      configured := fun _ => hv
      tx := ⟨t1, t2, t3, t4, t5, t6, t7, t8, t9, t10, ⟨t11, t12, t13⟩⟩
      rx := ⟨r1, r2, r3, r4, r5⟩
      dsp := ⟨d1, d2, d3, d4, d5, d6, fun job hj => absurd hj (he job), fun r prior hr' => absurd hr' (hx r prior)⟩ }

/-- Sending Q6 (value 1, one data bit, one stop bit) at 1200 baud: symbol `sym`, started at 1000. -/
def sendingQ6 (sym : BitVec 6) (phase : TxState) (line : Level) (retries : Nat) (c : Ctl) : State :=
  { configured .timerWait with
    params := vectorParams .timerWait (some 1)
    cfgTxbits := 1, cfgStop := 1, reqBusy := true, txState := phase, txValue := 1
    txSeq := [.high, .low, .high, .low, .high, .high], txNsym := 6, txSym := sym, txHb := 416
    txWstart := 1000, txRetries := retries, txLine := some line, ctl := c }

/-- Receiving one data bit and one stop bit: window `k`, the edge at 1100 (RX1). -/
def receiving (k : BitVec 6) (phase : RxState) (shift : Word32) (c : Ctl) : State :=
  { configured .timerWait with
    cfgRxbits := 1, cfgStop := 1, reqBusy := true, rxState := phase, rxTcall := 1000, rxTedge := 1100
    rxPrev := .high, rxK := k, rxShift := shift, ctl := c }

/-- In the repeat gap of the BusyDelay variant, interrupts disabled with token 7. -/
def inRepeatGap : State :=
  { configured .busyDelay with
    reqBusy := true, dspState := .gap, dspTmode := .repeatTwice, csActive := true, csToken := 7, ctl := .repeatGap }

/-- Coherence does not depend on the answers to come. -/
theorem coherent_given {s : State} (h : Coherent s) (nows : List Word32) (pins : List Level) (tokens : List Nat) :
    Coherent (given nows pins tokens s) where
  config := h.config
  busy := h.busy
  unanswered := h.unanswered
  legalAnswer := h.legalAnswer
  configured := h.configured
  tx := ⟨h.tx.sequence, h.tx.index, h.tx.phase, h.tx.held, h.tx.settling, h.tx.pausing, h.tx.quiet, h.tx.busyDelay,
    h.tx.timerWait, h.tx.noRetry, h.tx.bounds⟩
  rx := ⟨h.rx.window, h.rx.used, h.rx.waiting, h.rx.quiet, h.rx.bounds⟩
  dsp := ⟨h.dsp.notGap, h.dsp.gap, h.dsp.quiet, h.dsp.frame, h.dsp.second, h.dsp.guard, h.dsp.enter, h.dsp.exit⟩

theorem coherent_poll_first (nows : List Word32) : Coherent (given nows [] [] (sendingQ6 0 .start .high 0 .txPoll)) :=
  coherent_given (coherentHere_sound rfl (fun _ h => by cases h) (fun _ _ h => by cases h)) nows [] []

theorem coherent_poll_bound (nows : List Word32) : Coherent (given nows [] [] (sendingQ6 3 .data .low 1 .txPoll)) :=
  coherent_given (coherentHere_sound rfl (fun _ h => by cases h) (fun _ _ h => by cases h)) nows [] []

theorem coherent_poll_last (nows : List Word32) : Coherent (given nows [] [] (sendingQ6 5 .stop .high 0 .txPoll)) :=
  coherent_given (coherentHere_sound rfl (fun _ h => by cases h) (fun _ _ h => by cases h)) nows [] []

theorem coherent_pause : Coherent (sendingQ6 3 .retry .low 1 .txPause) :=
  coherentHere_sound rfl (fun _ h => by cases h) (fun _ _ h => by cases h)

theorem coherent_repeat_gap : Coherent inRepeatGap :=
  coherentHere_sound rfl (fun _ h => by cases h) (fun _ _ h => by cases h)

theorem coherent_edge (prev : Level) (pins : List Level) :
    Coherent (given [] pins [] { receiving 0 .edgeWait 0 (.rxEdge 1100) with rxPrev := prev }) :=
  coherentHere_sound (s := given [] pins [] { receiving 0 .edgeWait 0 (.rxEdge 1100) with rxPrev := prev }) rfl
    (fun _ h => by cases h) (fun _ _ h => by cases h)

theorem coherent_wait_a : ∀ nows, Coherent (given nows [] [] (receiving 0 .sample 0 .rxWaitA)) :=
  fun nows => coherentHere_sound (s := given nows [] [] (receiving 0 .sample 0 .rxWaitA)) rfl
    (fun _ h => by cases h) (fun _ _ h => by cases h)

theorem coherent_wait_b : ∀ nows, Coherent (given nows [] [] (receiving 3 .stopCheck 2 (.rxWaitB (some .high)))) :=
  fun nows => coherentHere_sound (s := given nows [] [] (receiving 3 .stopCheck 2 (.rxWaitB (some .high)))) rfl
    (fun _ h => by cases h) (fun _ _ h => by cases h)

theorem coherent_read_data (a : Option Level) (pins : List Level) :
    Coherent (given [] pins [] (receiving 1 .sample 1 (.rxReadB a))) :=
  coherentHere_sound (s := given [] pins [] (receiving 1 .sample 1 (.rxReadB a))) rfl
    (fun _ h => by cases h) (fun _ _ h => by cases h)

theorem coherent_read_stop (a : Level) (pins : List Level) :
    Coherent (given [] pins [] (receiving 2 .stopCheck 2 (.rxReadB (some a)))) :=
  coherentHere_sound (s := given [] pins [] (receiving 2 .stopCheck 2 (.rxReadB (some a)))) rfl
    (fun _ h => by cases h) (fun _ _ h => by cases h)

theorem coherent_read_last (a : Level) (pins : List Level) :
    Coherent (given [] pins [] (receiving 3 .stopCheck 2 (.rxReadB (some a)))) :=
  coherentHere_sound (s := given [] pins [] (receiving 3 .stopCheck 2 (.rxReadB (some a)))) rfl
    (fun _ h => by cases h) (fun _ _ h => by cases h)

theorem coherent_fresh : Coherent fresh where
  config := fun h => by cases h
  busy := by decide
  unanswered := by decide
  legalAnswer := fun _ h => by cases h
  configured := by decide
  tx := by constructor <;> decide
  rx := by constructor <;> decide
  dsp :=
    { notGap := by decide
      gap := by decide
      quiet := by decide
      frame := by decide
      second := by decide
      guard := by decide
      enter := fun _ h => by cases h
      exit := fun _ _ h => by cases h }

theorem ready_configured (variant : TxVariant) (nows : List Word32) (pins : List Level) (tokens : List Nat) :
    Ready (given nows pins tokens (configured variant)) :=
  ⟨⟨rfl, rfl, rfl⟩, rfl, fun _ => rfl⟩

/-! Witnesses: for every obligation with hypotheses, a state and operands that meet them, for each
clause at a boundary value where it has a range. -/

theorem test_meets_StepRunsWhatIsPresented :
    ({ fresh with port := some (.request { op := 0x4 }) }.port = some (.request { op := 0x4 }) ∧
      (Presented.request { op := 0x4 }).instr = .ok .receive) ∧
    decodeTableWord 16 0xFF20 = some (.reset .broadcast 0) ∧
    (fresh.port = none ∧ fresh.reqBusy = false ∧
      { fresh with program := [present (.frame 0x0A64)] }.program = present (.frame 0x0A64) :: [] ∧
      (present (.frame 0x0A64)).instr = .ok (.directArcS 5 100)) ∧
    (inRepeatGap.port = none ∧ inRepeatGap.reqBusy = true) ∧ fresh.program = [] := by
  decide

theorem test_meets_OneEventPerStep :
    nextState (step fresh) = some fresh ∧ inRepeatGap.port = none ∧ inRepeatGap.reqBusy = true ∧
    (nextState (step inRepeatGap)).map (·.trace) = some [.delayUs 9000] := by
  decide

theorem test_meets_RequestWhileBusyRefused : inRepeatGap.reqBusy = true := by decide

theorem test_meets_UnassignedRequestsRefused :
    ({ fresh with port := some (.request { op := 0xB }) }.port = some (.request { op := 0xB }) ∧
      0xB ≤ ({ op := 0xB } : Request).op.toNat) ∧
    ({ fresh with port := some (.request { op := 0x9, mode := 3 }) }.port = some (.request { op := 0x9, mode := 3 }) ∧
      ({ op := 0x9, mode := 3 } : Request).op.toNat ∈ [0x1, 0x2, 0x7, 0x8, 0x9]) ∧
    (({ op := 0xA, mode := 3 } : Request).op.toNat ≤ 0xA ∧
      ({ op := 0xA, mode := 3 } : Request).op.toNat ∉ [0x1, 0x2, 0x7, 0x8, 0x9]) := by
  decide

theorem test_meets_DecodeEncode : WellFormed (.querySceneLevel .group 15 15) = true := by decide

theorem test_meets_FrameDecodesToItsEncoding : decode (.frame 0x9FBF) = .ok (.querySceneLevel .group 15 15) := by decide

/-- One frame for each range of headers, at its ends. -/
theorem test_meets_FrameFormats :
    [(0x0000 : Frame), 0x7E00, 0x0100, 0x7F00, 0x8000, 0x9E00, 0x8100, 0x9F00].map (fun f => f.toNat / 256) =
      [0x00, 0x7E, 0x01, 0x7F, 0x80, 0x9E, 0x81, 0x9F] ∧
    (0xA1 ∈ specialOpcodes ∧ 0xC1 ∈ specialOpcodes) ∧ (0xA0 ∉ specialOpcodes ∧ 0xFD ∉ specialOpcodes) ∧
    (0xFE00 : Frame).toNat / 256 = 0xFE ∧ (0xFFFF : Frame).toNat / 256 = 0xFF := by
  decide

theorem test_meets_DispatchedFramesAreRows :
    encodeSend defaultTables .slave 0x10 63 15 = .ok (.simple, 0x7F1F) ∧ encodeArc .group 15 255 = .ok 0x9EFE := by
  decide

theorem test_meets_CodecIsPure :
    isCodec (.tmode 0x20) = true ∧ fresh.reqBusy = false ∧ (configured .busyDelay).reqBusy = false ∧
    fresh.params.tables = (configured .busyDelay).params.tables ∧
    nextState (exec (.tmode 0x20) fresh) = some (answered ⟨.ok, 1⟩ fresh) := by
  decide

theorem test_meets_EncArcFrames :
    fresh.reqBusy = false ∧ addressInRange .slave (63 : Byte).toNat ∧ ¬ addressInRange .slave (64 : Byte).toNat := by
  simp [addressInRange, fresh, State.resetWith]

theorem test_meets_EncCmdFrames :
    reservedValue (0xDF : Byte).toNat ∧
    (¬ reservedValue (0x10 : Byte).toNat ∧ (0x10 : Byte) ∈ fresh.params.tables.paramCmds) ∧
    (¬ reservedValue (0xE0 : Byte).toNat ∧ (0xE0 : Byte) ∉ fresh.params.tables.paramCmds ∧
      addressInRange .group (15 : Byte).toNat ∧ ¬ addressInRange .group (16 : Byte).toNat) := by
  refine ⟨by unfold reservedValue; decide, ⟨by unfold reservedValue; decide, by decide⟩, by unfold reservedValue; decide, by decide, ?_⟩
  simp [addressInRange]

theorem test_meets_EncParamFrames :
    (∀ c ∈ fresh.params.tables.paramCmds, c.toNat % 16 = 0) ∧
    ((0x11 : Byte) ∉ fresh.params.tables.paramCmds ∧ 15 < (16 : Byte).toNat) ∧
    ((0xB0 : Byte) ∈ fresh.params.tables.paramCmds ∧ (15 : Byte).toNat ≤ 15) ∧
    addressInRange .slave (63 : Byte).toNat ∧ ¬ addressInRange .slave (64 : Byte).toNat := by
  refine ⟨by decide, by decide, by decide, ?_⟩
  simp [addressInRange]

theorem test_meets_EncSpecialFrames :
    fresh.params.tables = defaultTables ∧ (0xBD : Byte).toNat ∈ zeroOpcodes ∧ (0xC1 : Byte).toNat ∈ dataOpcodes ∧
    ((0xB9 : Byte).toNat ∈ addr6Opcodes ∧ (63 : Byte).toNat ≤ 63) ∧ 63 < (64 : Byte).toNat ∧
    (0xC3 : Byte).toNat ∉ specialOpcodes := by
  decide

theorem test_meets_ClassifyAndTmodeCodes :
    fresh.reqBusy = false ∧ fresh.params.tables = defaultTables ∧
    (0xC1 : Byte).toNat ∈ plainOpcodes ++ paramOpcodes ++ specialOpcodes ∧
    (0x09 : Byte).toNat ∉ plainOpcodes ++ paramOpcodes ++ specialOpcodes := by
  decide

theorem test_meets_ClassifyTmodeConsistent :
    fresh.reqBusy = false ∧ tablesLegal defaultTables = true ∧
    (⟨0x00, .simple, .simple⟩ : CmdEntry) ∈ defaultTables.cmdTable := by
  decide

theorem test_meets_SetupConfiguresOrRejects :
    fresh.reqBusy = false ∧ fresh.port = none ∧
    ((500000 : Word32).toNat ≤ 500000 ∧ (16 : Byte).toNat ≤ 16 ∧ 1 ≤ (1 : Byte).toNat ∧ (2 : Byte).toNat = 2 ∧
      (15 : Byte).toNat < fresh.params.numPins) ∧
    ¬ (500001 : Word32).toNat ≤ 500000 ∧ ¬ (16 : Byte).toNat < fresh.params.numPins := by
  decide

theorem test_meets_ConfigurationWrittenOnlyBySetup :
    (nextState (step { fresh with port := some (.request { op := 0x0, baud := 1200, txbits := 16, rxbits := 8, stop := 2 }) })).map
      (fun t => (t.cfgBaud, t.cfgValid)) = some (1200, true) := by
  decide

theorem test_meets_LegalConfigurationInvariant :
    ((configured .timerWait).cfgValid = true ∧ (configured .timerWait).cfgBaud.toNat ≤ 500000 ∧
      (configured .timerWait).cfgTxbits.toNat = 16 ∧ (configured .timerWait).cfgStop.toNat = 2 ∧
      (configured .timerWait).cfgRxpin.toNat < (configured .timerWait).params.numPins) ∧
    nextState (step (configured .timerWait)) = some (configured .timerWait) := by
  decide

theorem test_meets_RowsAreRequests :
    rowRequest (.enableDeviceTypeX 6) = some (.send .broadcast 0xC1 0 6) ∧
    rowRequest (.directArcG 15 255) = some (.arc .group 15 255) := by
  decide

theorem test_meets_NotConfiguredBeforeSetup :
    Idle fresh ∧ fresh.cfgValid = false ∧ fresh.params.txVariant = .timerWait ∧
    (rowRequest (.off .slave 63)).isSome = true ∧
    Idle (State.resetWith (vectorParams .busyDelay none)) ∧
    (State.resetWith (vectorParams .busyDelay none)).params.txVariant = .busyDelay :=
  ⟨⟨rfl, rfl, rfl⟩, rfl, rfl, rfl, ⟨rfl, rfl, rfl⟩, rfl⟩

/-- TransmitStarts, SymbolSequence, ReceiveStarts. -/
theorem test_meets_Ready :
    Ready (configured .timerWait) ∧ (configured .timerWait).params.txVariant = .timerWait ∧
    (configured .timerWait).params.tables = defaultTables ∧ (configured .timerWait).port = none :=
  ⟨ready_configured .timerWait [] [] [], rfl, rfl, rfl⟩

theorem test_meets_ArcStartsOrFails :
    Ready (configured .timerWait) ∧ addressInRange .group (15 : Byte).toNat ∧ ¬ addressInRange .group (16 : Byte).toNat := by
  refine ⟨ready_configured .timerWait [] [] [], ?_⟩
  simp [addressInRange]

theorem test_meets_SendStartsOrFails :
    Ready (configured .timerWait) ∧
    encodeSend (configured .timerWait).params.tables .slave 0x00 64 0 = .error .wrongAddress ∧
    encodeSend (configured .timerWait).params.tables .slave 0x00 63 0 = .ok (.simple, 0x7F00) :=
  ⟨ready_configured .timerWait [] [] [], by decide, by decide⟩

theorem test_meets_SendErrorOrder :
    Ready (configured .timerWait) ∧
    (0xFF : Byte).toNat ∉ plainOpcodes ++ paramOpcodes ++ specialOpcodes ∧
    ((0x10 : Byte).toNat ∈ paramOpcodes ∧ 15 < (16 : Byte).toNat) ∧
    ((0xB0 : Byte).toNat ∈ paramOpcodes ∧ (15 : Byte).toNat ≤ 15 ∧ ¬ addressInRange .slave (64 : Byte).toNat) ∧
    ((0xB7 : Byte).toNat ∈ addr6Opcodes ∧ 63 < (64 : Byte).toNat) := by
  refine ⟨ready_configured .timerWait [] [] [], by decide, by decide, ⟨by decide, by decide, ?_⟩, by decide⟩
  simp [addressInRange]

/-- FrameRowsStart and FrameRowsRun. -/
theorem test_meets_FrameRows :
    rowRequest (.directArcG 15 255) = some (.arc .group 15 255) ∧ WellFormed (.directArcG 15 255) = true ∧
    encode (.directArcG 15 255) = .frame 0x9EFF ∧ Ready (configured .timerWait) ∧
    (configured .timerWait).params.tables = defaultTables ∧ Ready (configured .busyDelay) ∧
    (configured .busyDelay).params.txVariant = .busyDelay :=
  ⟨by decide, by decide, by decide, ready_configured .timerWait [] [] [], rfl, ready_configured .busyDelay [] [] [], rfl⟩

theorem test_meets_HalfBitPeriod :
    Coherent (sendingQ6 3 .retry .low 1 .txPause) ∧ transmitting (sendingQ6 3 .retry .low 1 .txPause).ctl = true :=
  ⟨coherent_pause, rfl⟩

/-- Clauses 1 and 2: a wrap at the bound and below it (W2). -/
theorem test_meets_SymbolPoll_wrap :
    Coherent (given [999] [] [] (sendingQ6 3 .data .low 1 .txPoll)) ∧
    (given [999] [] [] (sendingQ6 3 .data .low 1 .txPoll)).params.maxRetries = some 1 ∧
    Coherent (given [999] [] [] (sendingQ6 0 .start .high 0 .txPoll)) ∧
    ((drawNow (given [999] [] [] fresh).env).1.toNat % 2 ^ 31 < 1000) :=
  ⟨coherent_poll_bound _, rfl, coherent_poll_first _, by decide⟩

/-- Clauses 3, 4 and 5: the wait ends at 1416 and goes on at 1415 and at 1000 (W1). -/
theorem test_meets_SymbolPoll_wait :
    Coherent (given [1416] [] [] (sendingQ6 0 .start .high 0 .txPoll)) ∧
    (1000 : Time31).toNat + (416 : Word32).toNat ≤ (1416 : Word32).toNat % 2 ^ 31 ∧
    Coherent (given [1416] [] [] (sendingQ6 5 .stop .high 0 .txPoll)) ∧ 5 + 1 = (sendingQ6 5 .stop .high 0 .txPoll).txNsym.toNat ∧
    ((1415 : Word32).toNat % 2 ^ 31 < (1000 : Time31).toNat + (416 : Word32).toNat) ∧
    ((1000 : Time31).toNat ≤ (1000 : Word32).toNat % 2 ^ 31) :=
  ⟨coherent_poll_first _, by decide, coherent_poll_last _, rfl, by decide, by decide⟩

theorem test_meets_RetryRestartsTheFrame :
    Coherent (sendingQ6 3 .retry .low 1 .txPause) ∧ (sendingQ6 3 .retry .low 1 .txPause).ctl = .txPause :=
  ⟨coherent_pause, rfl⟩

/-- W4, with the stuck value read twice. -/
theorem test_meets_StuckTimerNeverEndsTheWait :
    Coherent (given [1000, 1000, 5] [] [] (sendingQ6 0 .start .high 0 .txPoll)) ∧
    (given [1000, 1000, 5] [] [] (sendingQ6 0 .start .high 0 .txPoll)).port = none ∧
    ([1000, 1000, 5] : List Word32) = List.replicate 2 1000 ++ [5] ∧
    mask31 1000 = (sendingQ6 0 .start .high 0 .txPoll).txWstart :=
  ⟨coherent_poll_first _, rfl, rfl, by decide⟩

/-- W3. -/
theorem test_meets_UnreachableTargetEndsOnlyByWrap :
    Coherent { given [0x10] [] [] (sendingQ6 0 .start .high 0 .txPoll) with txWstart := 0x7FFFFF00 } ∧
    0x7FFFFFFF < (0x7FFFFF00 : Time31).toNat + (416 : Word32).toNat ∧
    (nextState (event { given [0x10] [] [] (sendingQ6 0 .start .high 0 .txPoll) with txWstart := 0x7FFFFF00 })).map
      (·.txState) = some .retry := by
  refine ⟨coherentHere_sound
    (s := { given [0x10] [] [] (sendingQ6 0 .start .high 0 .txPoll) with txWstart := 0x7FFFFF00 }) rfl
    (fun _ h => by cases h) (fun _ _ h => by cases h), by decide, by decide⟩

/-- The start times of T1. -/
def vectorTimes : List Nat := (List.range 38).map fun k => 1000 + 416 * k

/-- IdealTransmission. -/
theorem test_meets_IdealTransmission :
    Ready (given (idealNows 416 vectorTimes ++ []) [] [] (configured .timerWait)) ∧ vectorTimes.length = 2 + 2 * 16 + 2 * 2 ∧
    500000 / (1200 : Word32).toNat = 416 ∧ validTimes 416 vectorTimes :=
  ⟨ready_configured .timerWait _ [] [], by decide, by decide, by unfold validTimes; decide⟩

/-- BusyTransmission. -/
theorem test_meets_BusyTransmission :
    Ready (given [] [] [7] (configured .busyDelay)) ∧ (configured .busyDelay).params.txVariant = .busyDelay ∧
    (given [] [] [7] (configured .busyDelay)).port = none :=
  ⟨ready_configured .busyDelay [] [] [7], rfl, rfl⟩

/-- BusyDispatch and GuardClosesOnErrors (D19, D18). -/
theorem test_meets_BusyDispatch :
    Ready (given [] [] [7] (configured .busyDelay)) ∧
    encodeSend (configured .busyDelay).params.tables .group 0x60 2 7 = .ok (.repeatTwice, 0x8567) ∧
    encodeArc .slave 63 255 = .ok 0x7EFE ∧
    encodeSend (configured .busyDelay).params.tables .slave 0x45 3 0 = .error .wrongCommand ∧
    encodeArc .slave 64 1 = .error .wrongAddress :=
  ⟨ready_configured .busyDelay [] [] [7], by decide, by decide, by decide, by decide⟩

/-- IdealDispatch, sent twice and once, and an ARC. -/
theorem test_meets_IdealDispatch :
    Ready (given (idealNows 416 vectorTimes ++ idealNows 416 vectorTimes ++ []) [] [] (configured .timerWait)) ∧
    encodeSend (configured .timerWait).params.tables .broadcast 0x20 0 0 = .ok (.repeatTwice, 0xFF20) ∧
    Ready (given (idealNows 416 vectorTimes ++ [] ++ []) [] [] (configured .timerWait)) ∧
    encodeSend (configured .timerWait).params.tables .slave 0x90 5 0 = .ok (.query, 0x0B90) ∧
    encodeArc .group 2 128 = .ok 0x8480 ∧ vectorTimes.length = 38 ∧ validTimes 416 vectorTimes :=
  ⟨ready_configured .timerWait _ [] [], by decide, ready_configured .timerWait _ [] [], by decide, by decide, by decide,
    by unfold validTimes; decide⟩

theorem test_meets_GuardRestoredOnEveryExit :
    Coherent inRepeatGap ∧ inRepeatGap.csActive = true ∧
    (nextState (step inRepeatGap)).map (fun t => (t.csToken, t.csActive)) = some (7, true) :=
  ⟨coherent_repeat_gap, rfl, by decide⟩

/-- RX4: one below the timeout, and the timeout; RX5: a wrap. -/
theorem test_meets_EdgeWaitTimeout :
    (receiving 0 .edgeWait 0 .rxPoll).ctl = .rxPoll ∧
    ((10999 : Word32).toNat % 2 ^ 31 < (1000 : Time31).toNat + fresh.params.rxTimeoutUs) ∧
    ((1000 : Time31).toNat + fresh.params.rxTimeoutUs ≤ (11000 : Word32).toNat % 2 ^ 31) ∧
    ((500 : Word32).toNat % 2 ^ 31 < (1000 : Time31).toNat) := by
  decide

theorem test_meets_FallingEdgeStartsTheWindows :
    Coherent (given [] [.low] [] { receiving 0 .edgeWait 0 (.rxEdge 1100) with rxPrev := .high }) ∧
    (drawPin (given [] [.low] [] fresh).env).1 = .low ∧
    Coherent (given [] [.low] [] { receiving 0 .edgeWait 0 (.rxEdge 1100) with rxPrev := .low }) ∧
    Coherent (given [] [.high] [] { receiving 0 .edgeWait 0 (.rxEdge 1100) with rxPrev := .high }) :=
  ⟨coherent_edge _ _, by decide, coherent_edge _ _, coherent_edge _ _⟩

/-- RX1 and RX6: the first sample of window 0 is due at 1620, the second of window 3 at 3076. -/
theorem test_meets_SamplePoint :
    Coherent (given [1620] [] [] (receiving 0 .sample 0 .rxWaitA)) ∧ 1100 + (1 + 0) * 416 + 416 / 4 = 1620 ∧
    Coherent (given [1619] [] [] (receiving 0 .sample 0 .rxWaitA)) ∧
    Coherent (given [5] [] [] (receiving 0 .sample 0 .rxWaitA)) ∧ ((5 : Word32).toNat % 2 ^ 31 < (1100 : Time31).toNat) ∧
    Coherent (given [3076] [] [] (receiving 3 .stopCheck 2 (.rxWaitB (some .high)))) ∧ 1100 + (1 + 3) * 416 + 3 * 416 / 4 = 3076 :=
  ⟨coherent_wait_a _, by decide, coherent_wait_a _, coherent_wait_a _, by decide, coherent_wait_b _, by decide⟩

/-- RX1, RX2, RX7, and a first sample that was a Wrap: a glitch, a Low stop window, the last data window, a stop window, the last one. -/
theorem test_meets_WindowJudged :
    Coherent (given [] [.low] [] (receiving 1 .sample 1 (.rxReadB none))) ∧
    Coherent (given [] [.low] [] (receiving 1 .sample 1 (.rxReadB (some .high)))) ∧
    Coherent (given [] [.low] [] (receiving 2 .stopCheck 2 (.rxReadB (some .low)))) ∧
    Coherent (given [] [.low] [] (receiving 1 .sample 1 (.rxReadB (some .low)))) ∧
    Coherent (given [] [.high] [] (receiving 2 .stopCheck 2 (.rxReadB (some .high)))) ∧
    Coherent (given [] [.high] [] (receiving 3 .stopCheck 2 (.rxReadB (some .high)))) ∧
    (drawPin (given [] [.high] [] fresh).env).1 = .high ∧ 3 + 1 = 2 * 1 + 2 * 1 :=
  ⟨coherent_read_data _ _, coherent_read_data _ _, coherent_read_stop _ _, coherent_read_data _ _, coherent_read_stop _ _,
    coherent_read_last _ _, by decide, rfl⟩

/-- RX1: the levels, the times and the windows. -/
theorem test_meets_ReceiveCollectsSymbols :
    Ready (given [1000, 1100, 1620, 1828, 2036, 2244, 2452, 2660, 2868, 3076]
      [.high, .low, .high, .high, .low, .low, .high, .high, .high, .high] []
      { configured .timerWait with cfgRxbits := 1, cfgStop := 1 }) ∧
    ([.high, .low, .high, .high] : List Level).drop 2 = List.replicate 2 .high ∧ 1100 - 1000 < fresh.params.rxTimeoutUs ∧
    ([1000, 1100, 1620, 1828, 2036, 2244, 2452, 2660, 2868, 3076] : List Word32) =
      BitVec.ofNat 32 1000 :: BitVec.ofNat 32 1100 ::
        (List.range 4).flatMap (fun k => [BitVec.ofNat 32 (1100 + (1 + k) * 416 + 416 / 4),
          BitVec.ofNat 32 (1100 + (1 + k) * 416 + 3 * 416 / 4)]) :=
  ⟨⟨⟨rfl, rfl, rfl⟩, rfl, fun _ => rfl⟩, by decide, by decide, by decide⟩

/-- StepKeepsCoherent, CoherentNeverFaults, ReceiverAndTransmitterExclude, from an idle state, in a
transmission and in a reception. -/
theorem test_meets_StepKeepsCoherent :
    Coherent fresh ∧ nextState (step fresh) = some fresh ∧ Coherent inRepeatGap ∧ (nextState (step inRepeatGap)).isSome = true ∧
    Coherent (given [1620] [] [] (receiving 0 .sample 0 .rxWaitA)) ∧
    (nextState (step (given [1620] [] [] (receiving 0 .sample 0 .rxWaitA)))).isSome = true :=
  ⟨coherent_fresh, by decide, coherent_repeat_gap, by decide, coherent_wait_a _, by decide⟩

theorem test_meets_EventsStayInContract :
    Coherent inRepeatGap ∧ (nextState (step inRepeatGap)).map (·.trace) = some (.delayUs 9000 :: inRepeatGap.trace) ∧
    Coherent (given [1620] [] [] (receiving 0 .sample 0 .rxWaitA)) ∧
    eventsOf (step (given [1620] [] [] (receiving 0 .sample 0 .rxWaitA))) = some [.now 1620] :=
  ⟨coherent_repeat_gap, by decide, coherent_wait_a _, by decide⟩

/-- T4: the second wrap of `MAX_RETRIES = some 1`. -/
theorem test_meets_TransmissionFailedOnlyAtTheBound :
    Coherent (given [999] [] [] (sendingQ6 3 .data .low 1 .txPoll)) ∧
    (given [999] [] [] (sendingQ6 3 .data .low 1 .txPoll)).response = none ∧
    responseOf (step (given [999] [] [] (sendingQ6 3 .data .low 1 .txPoll))) = some ⟨.transmissionFailed, 0⟩ :=
  ⟨coherent_poll_bound _, rfl, by decide⟩

theorem test_meets_BindingCallsExpand :
    Mode.slave ≠ .broadcast ∧ (0x10 : Byte).toNat ∉ specialOpcodes ∧ (0xB7 : Byte).toNat ∈ specialOpcodes := by
  decide

end Sys2Proof.Tests
end

section
/-! SUPPORT. The configuration as one value: what each operation of the model does to it. Only the body
of SETUP changes it (10_state.md R29). -/

namespace Sys2Proof.Machine

/-- The configuration registers (10_state.md R23 to R29) and the parameters their legal ranges refer to. -/
structure Configuration where
  params : Params
  baud : Word32
  txbits : Byte
  rxbits : Byte
  stop : Byte
  txpin : Byte
  rxpin : Byte
  valid : Bool

/-- The configuration a state holds. -/
def State.configuration (s : State) : Configuration where
  params := s.params
  baud := s.cfgBaud
  txbits := s.cfgTxbits
  rxbits := s.cfgRxbits
  stop := s.cfgStop
  txpin := s.cfgTxpin
  rxpin := s.cfgRxpin
  valid := s.cfgValid

/-! The exits of a request. -/

theorem finish_configuration (r : Response) (s : State) : (finish r s).configuration = s.configuration := by
  unfold finish
  split <;> rfl

theorem raise_configuration (status : Status) (s : State) : (raise status s).configuration = s.configuration :=
  finish_configuration _ _

theorem undoTokenAtExit_configuration (prior : Nat) (s : State) :
    (undoTokenAtExit prior s).configuration = s.configuration := by
  unfold undoTokenAtExit
  split <;> rfl

/-! The transmitter. -/

theorem symbolDone_configuration (s : State) : (symbolDone s).configuration = s.configuration := by
  unfold symbolDone
  split <;> rfl

theorem attemptFailed_configuration (s : State) : (attemptFailed s).configuration = s.configuration := by
  unfold attemptFailed
  split
  · exact raise_configuration _ _
  · rfl

theorem txPollEvent_configuration (s : State) : (txPollEvent s).configuration = s.configuration := by
  unfold txPollEvent
  split
  · exact attemptFailed_configuration _
  · exact symbolDone_configuration _
  · rfl

theorem txWriteEvent_configuration {s t : State} (h : txWriteEvent s = .next t) :
    t.configuration = s.configuration := by
  obtain ⟨l, -, rfl⟩ := txWriteEvent_next h
  rfl

theorem transmitReturned_configuration {s t : State} (h : transmitReturned s = .next t) :
    t.configuration = s.configuration := by
  obtain ⟨-, rfl⟩ | ⟨-, -, rfl⟩ | ⟨-, -, rfl⟩ | ⟨-, rfl⟩ := transmitReturned_next h
  · exact finish_configuration _ _
  · rfl
  · exact finish_configuration _ _
  · exact finish_configuration _ _

/-! The Dispatcher. -/

theorem sendBody_configuration (mode : Mode) (command address param : Byte) (s : State) :
    (sendBody mode command address param s).configuration = s.configuration := by
  unfold sendBody
  split
  · exact raise_configuration _ _
  · rfl

theorem arcBody_configuration (mode : Mode) (address brightness : Byte) (s : State) :
    (arcBody mode address brightness s).configuration = s.configuration := by
  unfold arcBody
  split
  · exact raise_configuration _ _
  · rfl

theorem runJob_configuration (job : Job) (s : State) : (runJob job s).configuration = s.configuration := by
  unfold runJob
  split
  · cases job with
    | transmit value => rfl
    | arc mode address brightness => exact arcBody_configuration _ _ _ _
    | send mode command address param => exact sendBody_configuration _ _ _ _ _
  · exact raise_configuration _ _

theorem withCs_configuration (job : Job) (s : State) : (withCs job s).configuration = s.configuration := by
  unfold withCs
  split
  · rfl
  · exact runJob_configuration _ _

theorem csEnterEvent_configuration (job : Job) (s : State) :
    (csEnterEvent job s).configuration = s.configuration :=
  (undoTokenAtExit_configuration _ _).trans (runJob_configuration _ _)

/-! The receiver. -/

theorem receiveBody_configuration (s : State) : (receiveBody s).configuration = s.configuration := by
  unfold receiveBody
  split <;> rfl

theorem nextWindow_configuration (s : State) : (nextWindow s).configuration = s.configuration := by
  unfold nextWindow
  split <;> rfl

theorem windowDone_configuration (a b : Level) (s : State) :
    (windowDone a b s).configuration = s.configuration := by
  unfold windowDone
  split
  · rfl
  · split
    · exact nextWindow_configuration _
    · split
      · exact nextWindow_configuration _
      · rfl

theorem rxPollEvent_configuration (s : State) : (rxPollEvent s).configuration = s.configuration := by
  unfold rxPollEvent
  split <;> rfl

theorem rxEdgeEvent_configuration (t : Time31) (s : State) :
    (rxEdgeEvent t s).configuration = s.configuration := by
  unfold rxEdgeEvent
  split <;> rfl

/-- A timer read of `SampleAt` keeps the configuration where its Wrap does. -/
theorem rxWaitEvent_configuration {wrapped : State → State}
    (hw : ∀ u, (wrapped u).configuration = u.configuration) (quarters : Nat) (ready : Ctl) (s : State) :
    (rxWaitEvent quarters wrapped ready s).configuration = s.configuration := by
  obtain h | h | h := rxWaitEvent_cases quarters wrapped ready s <;> rw [h]
  · exact hw _
  · rfl
  · rfl

theorem rxReadBEvent_configuration (a : Option Level) (s : State) :
    (rxReadBEvent a s).configuration = s.configuration := by
  cases a with
  | none => rfl
  | some l => exact windowDone_configuration _ _ _

/-! The engine and the step. -/

theorem eventState_configuration (s : State) : (eventState s).configuration = s.configuration := by
  unfold eventState
  cases s.ctl with
  | csEnter job => exact csEnterEvent_configuration job s
  | txHold => exact symbolDone_configuration _
  | txPoll => exact txPollEvent_configuration s
  | rxPoll => exact rxPollEvent_configuration s
  | rxEdge t => exact rxEdgeEvent_configuration t s
  | rxWaitA => exact rxWaitEvent_configuration (by intro u; rfl) _ _ s
  | rxWaitB a => exact rxWaitEvent_configuration (by intro u; rfl) _ _ s
  | rxReadB a => exact rxReadBEvent_configuration a s
  | _ => rfl

/-- No event changes the configuration: SETUP's own events come after its register writes. -/
theorem event_configuration {s t : State} (h : event s = .next t) : t.configuration = s.configuration := by
  obtain ⟨-, h⟩ | ⟨-, h⟩ | ⟨-, -, -, rfl⟩ := event_next h
  · exact txWriteEvent_configuration h
  · exact transmitReturned_configuration (s := settle s) h
  · exact eventState_configuration s

/-- A request that answers next leaves the configuration its body made. -/
theorem request_configuration {body : State → State} {s t : State} (h : request body s = .next t) :
    t.configuration = (body (accept s)).configuration := by
  obtain ⟨-, ⟨-, rfl⟩ | ⟨-, h⟩⟩ := request_next h
  · rfl
  · exact event_configuration h

/-- SETUP writes legal operands and nothing else. -/
theorem setupBody_configuration (baud : Word32) (txbits rxbits stop txpin rxpin : Byte) (s : State) :
    (setupBody baud txbits rxbits stop txpin rxpin s).configuration = s.configuration ∨
    setupLegal s.params.numPins baud txbits rxbits stop txpin rxpin = true ∧
      (setupBody baud txbits rxbits stop txpin rxpin s).configuration =
        ⟨s.params, baud, txbits, rxbits, stop, txpin, rxpin, true⟩ := by
  unfold setupBody
  split
  · exact .inr ⟨‹_›, rfl⟩
  · exact .inl rfl

/-- Every instruction is a request of one of four kinds: SETUP, RECEIVE, a codec request, or one that
transmits (a frame row is such a request, log 3). -/
theorem exec_request (i : Instr) (s : State) :
    (∃ baud txbits rxbits stop txpin rxpin, i = .setup baud txbits rxbits stop txpin rxpin ∧
      exec i s = request (setupBody baud txbits rxbits stop txpin rxpin) s) ∨
    (i = .receive ∧ exec i s = request receiveBody s) ∨
    (∃ r, exec i s = request (answer r) s) ∨
    ∃ job, exec i s = request (withCs job) s := by
  cases i with
  | setup => exact .inl ⟨_, _, _, _, _, _, rfl, rfl⟩
  | receive => exact .inr (.inl ⟨rfl, rfl⟩)
  | classify | tmode | encArc | encCmd | encParam | encSpecial => exact .inr (.inr (.inl ⟨_, rfl⟩))
  | _ => exact .inr (.inr (.inr ⟨_, rfl⟩))

/-- An instruction that answers next keeps the configuration, or it is a SETUP with legal operands, which
then stand in the registers. -/
theorem exec_configuration {i : Instr} {s t : State} (h : exec i s = .next t) :
    t.configuration = s.configuration ∨
    ∃ baud txbits rxbits stop txpin rxpin, i = .setup baud txbits rxbits stop txpin rxpin ∧
      setupLegal s.params.numPins baud txbits rxbits stop txpin rxpin = true ∧
      t.configuration = ⟨s.params, baud, txbits, rxbits, stop, txpin, rxpin, true⟩ := by
  obtain ⟨baud, txbits, rxbits, stop, txpin, rxpin, hi, hx⟩ | ⟨-, hx⟩ | ⟨r, hx⟩ | ⟨job, hx⟩ := exec_request i s <;>
    have ht := request_configuration (hx ▸ h)
  · obtain hb | ⟨hl, hb⟩ := setupBody_configuration baud txbits rxbits stop txpin rxpin (accept s)
    · exact .inl (ht.trans hb)
    · exact .inr ⟨_, _, _, _, _, _, hi, hl, ht.trans hb⟩
  · exact .inl (ht.trans (receiveBody_configuration _))
  · exact .inl ht
  · exact .inl (ht.trans (withCs_configuration _ _))

theorem fetch_configuration {s s' : State} {p : Presented} (h : fetch s = some (p, s')) :
    s'.configuration = s.configuration := by
  obtain ⟨-, rfl⟩ | ⟨-, -, rest, -, rfl⟩ := fetch_next h <;> rfl

/-- A step keeps the configuration, or it takes a SETUP with legal operands, which then stand in the
registers. -/
theorem step_configuration {s t : State} (h : step s = .next t) :
    t.configuration = s.configuration ∨
    ∃ p s' baud txbits rxbits stop txpin rxpin, fetch s = some (p, s') ∧
      p.instr = .ok (.setup baud txbits rxbits stop txpin rxpin) ∧
      setupLegal s.params.numPins baud txbits rxbits stop txpin rxpin = true ∧
      t.configuration = ⟨s.params, baud, txbits, rxbits, stop, txpin, rxpin, true⟩ := by
  obtain ⟨p, s', i, hf, hi, hx⟩ | ⟨-, -, he⟩ | ⟨-, -, rfl⟩ := step_next h
  · have hs := fetch_configuration hf
    have hp : s'.params = s.params := congrArg Configuration.params hs
    obtain hx | ⟨baud, txbits, rxbits, stop, txpin, rxpin, rfl, hl, hx⟩ := exec_configuration hx
    · exact .inl (hx.trans hs)
    · rw [hp] at hl hx
      exact .inr ⟨_, _, _, _, _, _, _, _, hf, hi, hl, hx⟩
  · exact .inl (event_configuration he)
  · exact .inl rfl

end Sys2Proof.Machine
end

section
/-! PROOF. The legal configuration (10_state.md R30): it holds at reset and every step keeps it. -/

namespace Sys2Proof.Safety

open Sys2Proof.Machine

/-- The checks of SETUP are the legal ranges of 10_state.md R23 to R28. -/
theorem setupLegal_iff (numPins : Nat) (baud : Word32) (txbits rxbits stop txpin rxpin : Byte) :
    setupLegal numPins baud txbits rxbits stop txpin rxpin = true ↔
    (1 ≤ baud.toNat ∧ baud.toNat ≤ 500000) ∧ (1 ≤ txbits.toNat ∧ txbits.toNat ≤ 16) ∧
    (1 ≤ rxbits.toNat ∧ rxbits.toNat ≤ 16) ∧ (stop.toNat = 1 ∨ stop.toNat = 2) ∧
    txpin.toNat < numPins ∧ rxpin.toNat < numPins := by
  have hstop : stop = 1 ∨ stop = 2 ↔ stop.toNat = 1 ∨ stop.toNat = 2 := by simp [← BitVec.toNat_inj]
  simp only [setupLegal, Bool.and_eq_true, Bool.or_eq_true, decide_eq_true_eq, beq_iff_eq, hstop, and_assoc]
  simp only [hbNumerator]

/-- A legal configuration, register by register. -/
theorem configLegal_iff (s : State) :
    ConfigLegal s ↔ (s.cfgValid = true →
      (1 ≤ s.cfgBaud.toNat ∧ s.cfgBaud.toNat ≤ 500000) ∧ (1 ≤ s.cfgTxbits.toNat ∧ s.cfgTxbits.toNat ≤ 16) ∧
      (1 ≤ s.cfgRxbits.toNat ∧ s.cfgRxbits.toNat ≤ 16) ∧ (s.cfgStop.toNat = 1 ∨ s.cfgStop.toNat = 2) ∧
      s.cfgTxpin.toNat < s.params.numPins ∧ s.cfgRxpin.toNat < s.params.numPins) := by
  simp only [ConfigLegal, setupLegal_iff]

theorem configLegal_resetWith (p : Params) : ConfigLegal (State.resetWith p) := fun h => by
  simp [State.resetWith] at h

/-- Whether a configuration is legal depends on nothing but the configuration. -/
theorem configLegal_of_configuration {s t : State} (h : t.configuration = s.configuration)
    (hs : ConfigLegal s) : ConfigLegal t := by
  simp only [State.configuration, Configuration.mk.injEq] at h
  obtain ⟨hparams, hbaud, htxbits, hrxbits, hstop, htxpin, hrxpin, hvalid⟩ := h
  simpa only [ConfigLegal, hparams, hbaud, htxbits, hrxbits, hstop, htxpin, hrxpin, hvalid] using hs

/-- A configuration made of operands that pass the checks of SETUP is legal. -/
theorem configLegal_of_setupLegal {t : State} {p : Params} {baud : Word32} {txbits rxbits stop txpin rxpin : Byte}
    (hl : setupLegal p.numPins baud txbits rxbits stop txpin rxpin = true)
    (h : t.configuration = ⟨p, baud, txbits, rxbits, stop, txpin, rxpin, true⟩) : ConfigLegal t := by
  simp only [State.configuration, Configuration.mk.injEq] at h
  obtain ⟨rfl, rfl, rfl, rfl, rfl, rfl, rfl, -⟩ := h
  exact fun _ => hl

/-- Every step keeps the configuration legal (10_state.md R30). -/
theorem step_keeps_configLegal {s t : State} (h : step s = .next t) (hs : ConfigLegal s) : ConfigLegal t := by
  obtain hc | ⟨_, _, _, _, _, _, _, _, -, -, hl, hc⟩ := step_configuration h
  · exact configLegal_of_configuration hc hs
  · exact configLegal_of_setupLegal hl hc

/-- Settles O21: reset is not configured, and a step keeps the configuration or replaces it by the
operands of a SETUP that passed its checks. -/
theorem legalConfigurationInvariant : Obligations.LegalConfigurationInvariant := by
  unfold Obligations.LegalConfigurationInvariant
  exact ⟨fun p => (configLegal_iff _).1 (configLegal_resetWith p),
    fun s t hs h => (configLegal_iff t).1 (step_keeps_configLegal h ((configLegal_iff s).2 hs))⟩

end Sys2Proof.Safety
end

section
/-! PROOF. The codec requests (20_memory.md R76): each answers at once with a response that is a function of
its operands and the tables. -/

namespace Sys2Proof.Safety

open Sys2Proof.Machine

/-- A codec request of an idle block only answers. -/
theorem request_answer (r : Except Status (BitVec 16)) (s : State) (h : s.reqBusy = false) :
    request (answer r) s = .next (answered (codecResponse r) s) :=
  request_codec r s h

/-- The response of a codec instruction is one function of the tables: no other part of the state enters it. -/
theorem exec_codec {i : Instr} (hi : isCodec i = true) :
    ∃ respOf : Tables → Response, ∀ s, s.reqBusy = false →
      exec i s = .next (answered (respOf s.params.tables) s) := by
  cases i with
  | classify command =>
    exact ⟨fun t => codecResponse ((classifyCmd t command).map classCode), fun s => request_answer _ s⟩
  | tmode command =>
    exact ⟨fun t => codecResponse ((tmodeCmd t command).map tmodeCode), fun s => request_answer _ s⟩
  | encArc mode address brightness =>
    exact ⟨fun _ => codecResponse (encodeArc mode address brightness), fun s => request_answer _ s⟩
  | encCmd mode address command =>
    exact ⟨fun t => codecResponse (encodeCommand t mode address command), fun s => request_answer _ s⟩
  | encParam mode address command param =>
    exact ⟨fun t => codecResponse (encodeParam t mode address command param), fun s => request_answer _ s⟩
  | encSpecial command data =>
    exact ⟨fun t => codecResponse (encodeSpecial t command data), fun s => request_answer _ s⟩
  | _ => cases hi

/-- The state after an answer holds the response it was answered with. -/
theorem answered_inj {q r : Response} {s : State} : answered q s = answered r s ↔ q = r :=
  ⟨fun h => Option.some.inj (congrArg State.response h), congrArg (answered · s)⟩

/-- Settles O11: the response is the same function of the tables in both states, so the response seen in
one is the response in the other. -/
theorem codecIsPure : Obligations.CodecIsPure := by
  unfold Obligations.CodecIsPure
  refine ⟨fun i s hi hs => ?_, fun i s s' r hi hs hs' ht hx => ?_⟩ <;>
    obtain ⟨respOf, hresp⟩ := exec_codec hi
  · exact ⟨_, hresp s hs⟩
  · have hr : respOf s.params.tables = r :=
      answered_inj.1 (Host.Outcome.next.inj ((hresp s hs).symm.trans hx))
    rw [hresp s' hs', ← ht, hr]

end Sys2Proof.Safety
end

section
/-! PROOF. The frames of ENC_ARC and ENC_CMD (30_encoding.md R81 to R86): the encoders' checks and bytes by
their values, and the two requests that answer with them. -/

namespace Sys2Proof.Safety

open Sys2Proof.Machine

/-! The checks, by values. -/

/-- `AddrOK` is the address range of the mode (30_encoding.md R92). -/
theorem addrOk_iff {mode : Mode} {a : Byte} : addrOk mode a = true ↔ addressInRange mode a.toNat := by
  cases mode <;> simp [addressInRange]

theorem addrOk_eq_false_iff {mode : Mode} {a : Byte} :
    addrOk mode a = false ↔ ¬ addressInRange mode a.toNat := by
  rw [← addrOk_iff, Bool.not_eq_true]

/-- The match and mask pairs of `IsReserved` are the five ranges of values (30_encoding.md R96). -/
theorem isReserved_iff {c : Byte} : isReserved c = true ↔ reservedValue c.toNat := by
  unfold reservedValue
  revert c; decide

theorem isReserved_eq_false_iff {c : Byte} : isReserved c = false ↔ ¬ reservedValue c.toNat := by
  rw [← isReserved_iff, Bool.not_eq_true]

/-- `IsParamCmd` is membership in the list of with-parameter opcodes (40_frame_codec.md R126). -/
theorem isParamCmd_iff {t : Tables} {c : Byte} : isParamCmd t c = true ↔ c ∈ t.paramCmds :=
  List.contains_iff_mem

theorem isParamCmd_eq_false_iff {t : Tables} {c : Byte} : isParamCmd t c = false ↔ c ∉ t.paramCmds := by
  rw [← isParamCmd_iff, Bool.not_eq_true]

/-! The bytes, by values. -/

/-- The number a frame stands for: the header above the data byte (20_memory.md R63). -/
theorem mkFrame_eq_ofNat (h d : Byte) : mkFrame h d = BitVec.ofNat 16 (h.toNat * 256 + d.toNat) := by
  have hd := d.isLt
  apply BitVec.eq_of_toNat_eq
  rw [mkFrame, BitVec.toNat_append, ← Nat.shiftLeft_add_eq_or_of_lt hd, Nat.shiftLeft_eq, BitVec.toNat_ofNat]
  omega

/-- A slave address in range loses no bit to the mask of `Hdr` (30_encoding.md R91). -/
theorem slaveHeader_toNat (a : Byte) (h : a.toNat ≤ 63) (sel : Bool) :
    (headerByte .slave a sel).toNat = 2 * a.toNat + sel.toNat := by
  revert a sel; decide

/-- A group address in range loses no bit to the mask of `Hdr` (30_encoding.md R91). -/
theorem groupHeader_toNat (a : Byte) (h : a.toNat ≤ 15) (sel : Bool) :
    (headerByte .group a sel).toNat = 0x80 + 2 * a.toNat + sel.toNat := by
  revert a sel; decide

theorem broadcastHeader_toNat (a : Byte) (sel : Bool) :
    (headerByte .broadcast a sel).toNat = 0xFE + sel.toNat := by
  cases sel <;> rfl

/-- The header byte of an address in range has the value of its format (30_encoding.md R81 to R86, R91). -/
theorem headerByte_toNat {mode : Mode} {a : Byte} (h : addressInRange mode a.toNat) (sel : Bool) :
    (headerByte mode a sel).toNat = headerValue mode a.toNat sel.toNat := by
  cases mode with
  | slave => exact slaveHeader_toNat a h sel
  | group => exact groupHeader_toNat a h sel
  | broadcast => exact broadcastHeader_toNat a sel

/-! The encoders, by values. -/

theorem encodeArc_inRange {mode : Mode} {a : Byte} (b : Byte) (h : addressInRange mode a.toNat) :
    encodeArc mode a b =
      .ok (BitVec.ofNat 16 (headerValue mode a.toNat 0 * 256 + min b.toNat 254)) := by
  rw [encodeArc_ok (addrOk_iff.2 h), mkFrame_eq_ofNat, headerByte_toNat h, clampBrightness_le, Bool.toNat_false]

theorem encodeArc_outOfRange {mode : Mode} {a : Byte} (b : Byte) (h : ¬ addressInRange mode a.toNat) :
    encodeArc mode a b = .error .wrongAddress :=
  encodeArc_bad (addrOk_eq_false_iff.2 h)

theorem encodeAddressed_inRange {mode : Mode} {a : Byte} (d : Byte) (h : addressInRange mode a.toNat) :
    encodeAddressed mode a d = .ok (BitVec.ofNat 16 (headerValue mode a.toNat 1 * 256 + d.toNat)) := by
  rw [encodeAddressed_ok (addrOk_iff.2 h), mkFrame_eq_ofNat, headerByte_toNat h, Bool.toNat_true]

theorem encodeAddressed_outOfRange {mode : Mode} {a : Byte} (d : Byte) (h : ¬ addressInRange mode a.toNat) :
    encodeAddressed mode a d = .error .wrongAddress :=
  encodeAddressed_bad (addrOk_eq_false_iff.2 h)

/-- The reserved check of ENC_CMD comes first (40_frame_codec.md R128). -/
theorem encodeCommand_reserved (t : Tables) (mode : Mode) (a : Byte) {c : Byte} (h : reservedValue c.toNat) :
    encodeCommand t mode a c = .error .reservedCommand := by
  rw [encodeCommand, if_pos (isReserved_iff.2 h)]

/-- The with-parameter check of ENC_CMD comes before the address check (40_frame_codec.md R128). -/
theorem encodeCommand_paramCmd {t : Tables} (mode : Mode) (a : Byte) {c : Byte} (hr : ¬ reservedValue c.toNat)
    (hp : c ∈ t.paramCmds) : encodeCommand t mode a c = .error .wrongCommand := by
  rw [encodeCommand, if_neg (isReserved_iff.not.2 hr), if_pos (isParamCmd_iff.2 hp)]

/-- An opcode that passes both checks of ENC_CMD is encoded as it stands (40_frame_codec.md R128). -/
theorem encodeCommand_plain {t : Tables} (mode : Mode) (a : Byte) {c : Byte} (hr : ¬ reservedValue c.toNat)
    (hp : c ∉ t.paramCmds) : encodeCommand t mode a c = encodeAddressed mode a c :=
  encodeCommand_accepted t mode a c (isReserved_eq_false_iff.2 hr) (isParamCmd_eq_false_iff.2 hp)

/-! The requests. -/

theorem exec_encArc (mode : Mode) (address brightness : Byte) {s : State} (hs : s.reqBusy = false) :
    exec (.encArc mode address brightness) s =
      .next (answered (codecResponse (encodeArc mode address brightness)) s) :=
  request_answer _ s hs

theorem exec_encCmd (mode : Mode) (address command : Byte) {s : State} (hs : s.reqBusy = false) :
    exec (.encCmd mode address command) s =
      .next (answered (codecResponse (encodeCommand s.params.tables mode address command)) s) :=
  request_answer _ s hs

/-- Settles O12: ENC_ARC answers with what its encoder gives, in range and out of range. -/
theorem encArcFrames : Obligations.EncArcFrames := by
  unfold Obligations.EncArcFrames
  intro mode address brightness s hs
  rw [exec_encArc mode address brightness hs]
  refine ⟨fun ha => ?_, fun ha => ?_⟩
  · rw [encodeArc_inRange brightness ha]; rfl
  · rw [encodeArc_outOfRange brightness ha]; rfl

/-- Settles O13: ENC_CMD answers with what its encoder gives, one case per check in their order and one
for the accepted command. -/
theorem encCmdFrames : Obligations.EncCmdFrames := by
  unfold Obligations.EncCmdFrames
  intro mode address command s hs
  rw [exec_encCmd mode address command hs]
  refine ⟨fun hr => ?_, fun hr hp => ?_, fun hr hp ha => ?_, fun hr hp ha => ?_⟩
  · rw [encodeCommand_reserved _ mode address hr]; rfl
  · rw [encodeCommand_paramCmd mode address hr hp]; rfl
  · rw [encodeCommand_plain mode address hr hp, encodeAddressed_outOfRange command ha]; rfl
  · rw [encodeCommand_plain mode address hr hp, encodeAddressed_inRange command ha]; rfl

end Sys2Proof.Safety
end

section
/-! PROOF. CLASSIFY and TMODE agree (40_frame_codec.md R121 to R124): both answer from the one lookup of
the opcode, and in legal tables an opcode has one entry. -/

namespace Sys2Proof.Safety

open Sys2Proof.Machine

/-! The lookup. -/

/-- An entry found is an entry of the table, with the opcode looked up. -/
theorem mem_of_cmdLookup_eq_some {t : Tables} {c : Byte} {e : CmdEntry} (h : cmdLookup t c = some e) :
    e ∈ t.cmdTable ∧ e.opcode = c :=
  ⟨List.mem_of_find?_eq_some h, beq_iff_eq.1 (List.find?_some h :)⟩

/-- The lookup is Invalid (10_state.md R40) exactly where no entry has the opcode. -/
theorem cmdLookup_eq_none_iff {t : Tables} {c : Byte} :
    cmdLookup t c = none ↔ ∀ e ∈ t.cmdTable, e.opcode ≠ c := by
  simp [cmdLookup]

/-- Legal tables list no opcode twice (40_frame_codec.md R121). -/
theorem tablesLegal_nodup {t : Tables} (ht : tablesLegal t = true) : (t.cmdTable.map (·.opcode)).Nodup := by
  simp only [tablesLegal, Bool.and_eq_true, decide_eq_true_eq, and_assoc] at ht
  exact ht.1

/-- In legal tables an entry is determined by its opcode. -/
theorem cmdEntry_unique {t : Tables} (ht : tablesLegal t = true) {e e' : CmdEntry} (he : e ∈ t.cmdTable)
    (he' : e' ∈ t.cmdTable) (h : e.opcode = e'.opcode) : e = e' :=
  List.inj_on_of_nodup_map (tablesLegal_nodup ht) he he' h

/-! The two requests answer by the same lookup. -/

theorem classifyCmd_of_some {t : Tables} {c : Byte} {e : CmdEntry} (h : cmdLookup t c = some e) :
    classifyCmd t c = .ok e.cls := by
  rw [classifyCmd, h]

theorem classifyCmd_of_none {t : Tables} {c : Byte} (h : cmdLookup t c = none) :
    classifyCmd t c = .error .wrongCommand := by
  rw [classifyCmd, h]

theorem tmodeCmd_of_some {t : Tables} {c : Byte} {e : CmdEntry} (h : cmdLookup t c = some e) :
    tmodeCmd t c = .ok e.tmode := by
  rw [tmodeCmd, h]

theorem tmodeCmd_of_none {t : Tables} {c : Byte} (h : cmdLookup t c = none) :
    tmodeCmd t c = .error .wrongCommand := by
  rw [tmodeCmd, h]

theorem exec_classify (command : Byte) {s : State} (hs : s.reqBusy = false) :
    exec (.classify command) s =
      .next (answered (codecResponse ((classifyCmd s.params.tables command).map classCode)) s) :=
  request_answer _ s hs

theorem exec_tmode (command : Byte) {s : State} (hs : s.reqBusy = false) :
    exec (.tmode command) s =
      .next (answered (codecResponse ((tmodeCmd s.params.tables command).map tmodeCode)) s) :=
  request_answer _ s hs

/-- Settles O17: by what the one lookup of the opcode finds; legal tables hold each opcode once. -/
theorem classifyTmodeConsistent : Obligations.ClassifyTmodeConsistent := by
  unfold Obligations.ClassifyTmodeConsistent
  refine ⟨fun command s hs => ?_, fun t ht e he e' he' h => cmdEntry_unique ht he he' h⟩
  rw [exec_classify command hs, exec_tmode command hs]
  cases h : cmdLookup s.params.tables command with
  | some e =>
    obtain ⟨hmem, hop⟩ := mem_of_cmdLookup_eq_some h
    rw [classifyCmd_of_some h, tmodeCmd_of_some h]
    exact .inl ⟨e, hmem, hop, rfl, rfl⟩
  | none =>
    rw [classifyCmd_of_none h, tmodeCmd_of_none h]
    exact .inr ⟨cmdLookup_eq_none_iff.1 h, rfl, rfl⟩

end Sys2Proof.Safety
end

section
/-! SUPPORT. The start of a transmitting request in each transmitter variant (43_dispatcher.md R296), and a
new attempt from registers that already hold its values (41_line_encoder.md R228, R230). -/

namespace Sys2Proof.Machine

theorem withCs_timerWait (job : Job) (s : State) (hv : s.params.txVariant = .timerWait) :
    withCs job s = runJob job s := by
  simp [withCs, hv]

theorem withCs_busyDelay (job : Job) (s : State) (hv : s.params.txVariant = .busyDelay) :
    withCs job s = { s with ctl := .csEnter job } := by
  simp [withCs, hv]

theorem runJob_transmit (value : BitVec 16) (s : State) (hc : s.cfgValid = true) :
    runJob (.transmit value) s = transmit value s := by
  simp [runJob, hc]

/-- The guard's first event of TRANSMIT, which is still active after it. -/
theorem csEnterEvent_transmit (value : BitVec 16) (s : State) (hc : s.cfgValid = true) :
    csEnterEvent (.transmit value) s = transmit value (intDisableSave s) := by
  rw [csEnterEvent, runJob_transmit value (intDisableSave s) hc]
  exact undoTokenAtExit_active _ _ (by intro r p h; cases h)

/-- The event that writes a symbol the sequence has. -/
theorem txWriteEvent_of_getElem? (s : State) {l : Level} (hl : s.txSeq[s.txSym.toNat]? = some l) :
    txWriteEvent s = .next { writeTx l s with ctl := holdOf s.params.txVariant } := by
  simp [txWriteEvent, hl]

/-- The first event of `Transmit` is the write of the first start symbol, High. -/
theorem event_transmit (value : BitVec 16) (s : State) :
    event (transmit value s) =
      .next { writeTx .high (transmit value s) with ctl := holdOf s.params.txVariant } :=
  txWriteEvent_of_getElem? (transmit value s) rfl

/-- TRANSMIT in the TimerWait variant begins with the first symbol (41_line_encoder.md R235). -/
theorem exec_transmit_timerWait (value : BitVec 16) {s : State} (hb : s.reqBusy = false)
    (hc : s.cfgValid = true) (hv : s.params.txVariant = .timerWait) :
    exec (.transmit value) s =
      .next { writeTx .high (transmit value (accept s)) with ctl := .txStart } := by
  have hbody : withCs (.transmit value) (accept s) = transmit value (accept s) := by
    rw [withCs_timerWait _ (accept s) hv, runJob_transmit _ (accept s) hc]
  calc exec (.transmit value) s
    _ = event (withCs (.transmit value) (accept s)) := request_active _ s hb (by rw [hbody]; rfl)
    _ = _ := by rw [hbody, event_transmit, accept_params, hv]; rfl

/-- TRANSMIT in the BusyDelay variant begins by disabling interrupts; symbol 0 is due then. -/
theorem exec_transmit_busyDelay (value : BitVec 16) {s : State} (hb : s.reqBusy = false)
    (hc : s.cfgValid = true) (hv : s.params.txVariant = .busyDelay) :
    exec (.transmit value) s = .next (transmit value (intDisableSave (accept s))) := by
  have hbody := withCs_busyDelay (.transmit value) (accept s) hv
  calc exec (.transmit value) s
    _ = event (withCs (.transmit value) (accept s)) := request_active _ s hb (by rw [hbody]; rfl)
    _ = .next (csEnterEvent (.transmit value) { accept s with ctl := .csEnter (.transmit value) }) := by
      rw [hbody]; rfl
    _ = _ := congrArg Host.Outcome.next (csEnterEvent_transmit value _ hc)

/-- A new attempt with the period, sequence and count the registers hold changes only the index, the phase
and the place. -/
theorem startAttempt_of_loaded (s : State) (hb : s.txHb = halfBit s.cfgBaud)
    (hseq : s.txSeq = symSeq s.txValue s.cfgTxbits.toNat s.cfgStop.toNat)
    (hn : s.txNsym.toNat = symCount s.cfgTxbits.toNat s.cfgStop.toNat) :
    startAttempt s = { s with txSym := 0, txState := .start, ctl := .txWrite } := by
  have hn' : BitVec.ofNat 6 (symCount s.cfgTxbits.toNat s.cfgStop.toNat) = s.txNsym :=
    BitVec.eq_of_toNat_eq (by rw [← hn, BitVec.ofNat_toNat, BitVec.setWidth_eq])
  rw [startAttempt, ← hb, ← hseq, hn']
  rfl

end Sys2Proof.Machine
end

section
/-! PROOF. The line encoder's sequence and its retry (41_line_encoder.md R222 to R225, R230, R232). -/

namespace Sys2Proof.Safety

open Sys2Proof.Machine

/-! The symbol sequence, read at each place. -/

/-- Data bit `j` of a value, most significant first, stands at places `2j` and `2j + 1`. -/
theorem dataSymbols_getElem? (value : BitVec 16) {n j i : Nat} (hj : j < n) (hi : i < 2) :
    (dataSymbols value n)[2 * j + i]? = (bitSymbols (value.getLsbD (n - 1 - j)))[i]? := by
  induction n generalizing j with
  | zero => omega
  | succ n ih =>
    cases j with
    | zero => simpa [dataSymbols] using List.getElem?_append_left (by simpa using hi)
    | succ j =>
      have hplace : 2 * (j + 1) + i - 2 = 2 * j + i := by omega
      have hbit : n + 1 - 1 - (j + 1) = n - 1 - j := by omega
      rw [dataSymbols, List.getElem?_append_right (by simp; omega), bitSymbols_length, hplace,
        ih (by omega), hbit]

/-- The data symbols follow the two start symbols. -/
theorem symSeq_getElem?_data (value : BitVec 16) {n j i : Nat} (k : Nat) (hj : j < n) (hi : i < 2) :
    (symSeq value n k)[2 + 2 * j + i]? = (bitSymbols (value.getLsbD (n - 1 - j)))[i]? := by
  have hplace : 2 + 2 * j + i - startSymbols.length = 2 * j + i := by simp [startSymbols]; omega
  rw [symSeq, List.append_assoc, List.getElem?_append_right (by simp [startSymbols]; omega), hplace,
    List.getElem?_append_left (by simp; omega), dataSymbols_getElem? value hj hi]

/-- After start and data every symbol of the sequence is the idle level. -/
theorem symSeq_getElem?_stop (value : BitVec 16) {n k j : Nat} (h : 2 + 2 * n ≤ j)
    (hlt : j < 2 + 2 * n + 2 * k) : (symSeq value n k)[j]? = some .high := by
  have hlen : (startSymbols ++ dataSymbols value n).length = 2 + 2 * n := by simp [startSymbols]; omega
  rw [symSeq, List.getElem?_append_right (by omega), hlen, stopSymbols,
    List.getElem?_replicate_of_lt (by omega)]

/-- A TRANSMIT answers with its symbol sequence loaded, whichever its first event is. -/
theorem exec_transmit_txSeq (value : BitVec 16) {s : State} (hb : s.reqBusy = false) (hc : s.cfgValid = true) :
    ∃ t, exec (.transmit value) s = .next t ∧ t.txSeq = symbolsOf value s := by
  cases hv : s.params.txVariant with
  | timerWait => exact ⟨_, exec_transmit_timerWait value hb hc hv, rfl⟩
  | busyDelay => exact ⟨_, exec_transmit_busyDelay value hb hc hv, rfl⟩

/-- Settles O29: TRANSMIT loads the sequence of the value, which is read off part by part. -/
theorem symbolSequence : Obligations.SymbolSequence := by
  unfold Obligations.SymbolSequence
  rintro value s ⟨⟨hb, -, -⟩, hc, -⟩ n k
  obtain ⟨t, ht, hseq⟩ := exec_transmit_txSeq value hb hc
  rw [symbolsOf] at hseq
  refine ⟨t, ht, ?_⟩
  rw [hseq]
  refine ⟨symSeq_length _ _ _, rfl, rfl, fun j hj => ⟨?_, ?_⟩, fun j => symSeq_getElem?_stop value⟩
  · rw [← Nat.add_zero (2 + 2 * j), symSeq_getElem?_data value k hj (by decide)]
    cases value.getLsbD (n - 1 - j) <;> rfl
  · rw [show 3 + 2 * j = 2 + 2 * j + 1 by omega, symSeq_getElem?_data value k hj (by decide)]
    cases value.getLsbD (n - 1 - j) <;> rfl

/-- Settles O32: a coherent pause holds the period, sequence and count the new attempt computes. -/
theorem retryRestartsTheFrame : Obligations.RetryRestartsTheFrame := by
  unfold Obligations.RetryRestartsTheFrame
  intro s hs hctl
  obtain ⟨hseq, hn, hhb⟩ := hs.tx.sequence (by rw [hctl]; rfl)
  have hevent : event s = .next (txPauseEvent s) := by rw [event, hctl]
  rw [hevent, txPauseEvent, startAttempt_of_loaded (delayUs _ s) hhb hseq hn]
  rfl

end Sys2Proof.Safety
end

section
/-! PROOF. An instruction presented during an active request (60_exceptions.md R338): whatever its kind, it is a
request, and the request's start refuses it. -/

namespace Sys2Proof.Safety

open Sys2Proof.Machine

/-- Settles O5: each of the four kinds of instruction is a request of some body, which a busy block refuses
before the body is read. -/
theorem requestWhileBusyRefused : Obligations.RequestWhileBusyRefused := by
  unfold Obligations.RequestWhileBusyRefused
  intro i s hbusy
  obtain ⟨_, _, _, _, _, _, -, hx⟩ | ⟨-, hx⟩ | ⟨_, hx⟩ | ⟨_, hx⟩ := exec_request i s <;>
    exact hx.trans (request_busy _ s hbusy)

end Sys2Proof.Safety
end

section
/-! PROOF. What reset leaves (70_reset_and_hazards.md R371): nothing is presented to an idle block, so each step
waits, and a state whose step is itself is where every run from it stands. -/

namespace Sys2Proof.Safety

open Sys2Proof.Machine

/-- With the port and the program empty, an idle block has nothing to take. -/
theorem fetch_eq_none_of_nothing_presented {s : State} (hport : s.port = none) (hbusy : s.reqBusy = false)
    (hprogram : s.program = []) : fetch s = none := by
  simp [fetch, hport, hbusy, hprogram]

/-- An idle block with nothing presented waits (70_reset_and_hazards.md R372). -/
theorem step_waits {s : State} (hport : s.port = none) (hbusy : s.reqBusy = false) (hprogram : s.program = []) :
    step s = .next s := by
  simp [step, fetch_eq_none_of_nothing_presented hport hbusy hprogram, hbusy]

/-- A state that a step of a machine keeps is kept by every run. -/
theorem run_of_step_self {M : Host.Core} {s : M.State} (h : M.step s = .next s) (k : Nat) :
    M.run k s = .next s := by
  induction k with
  | zero => rfl
  | succ k ih => simp only [Host.Core.run, h, ih]

/-- Settles O1: reset presents nothing and no request is active, so the block waits, however long it runs. -/
theorem resetMakesNoEvent : Obligations.ResetMakesNoEvent := by
  unfold Obligations.ResetMakesNoEvent
  have hwaits (p : Params) : step (State.resetWith p) = .next (State.resetWith p) := step_waits rfl rfl rfl
  exact ⟨fun p => ⟨rfl, rfl, run_of_step_self (M := core) (hwaits p)⟩, rfl⟩

end Sys2Proof.Safety
end

section
/-! PROOF. The decoder and the encoder of the opcode table undo each other (30_encoding.md section 1, R106):
the four kinds of format by header and selector, the rows of the three row lists, and the two round trips. -/

namespace Sys2Proof

/-! Formats by header and selector. -/

/-- `frame[8]` is bit 0 of the header (30_encoding.md R80). -/
theorem frame_selector (f : Frame) : f.getLsbD 8 = (frameHeader f).getLsbD 0 := by
  rw [← mkFrame_selector _ (frameData f), mkFrame_bytes]

theorem decodeFormat_arc {f : Frame} {mode : Mode} {a : Byte} (hs : (frameHeader f).getLsbD 0 = false)
    (ha : headerAddress (frameHeader f) = some (mode, a)) : decodeFormat f = .arc mode a (frameData f) := by
  simp only [decodeFormat, frame_selector, hs, ha]
  rfl

theorem decodeFormat_command {f : Frame} {mode : Mode} {a : Byte} (hs : (frameHeader f).getLsbD 0 = true)
    (hl : specialRows.lookup (frameHeader f) = none)
    (ha : headerAddress (frameHeader f) = some (mode, a)) : decodeFormat f = .command mode a (frameData f) := by
  simp only [decodeFormat, frame_selector, hs, hl, ha]
  rfl

/-- Every special header has the selector bit (40_frame_codec.md R185 to R198). -/
theorem specialRows_selector : ∀ h : Byte, (specialRows.lookup h).isSome = true → h.getLsbD 0 = true := by
  decide

/-- A special header comes before a command header (30_encoding.md R90). -/
theorem decodeFormat_special {f : Frame} (hl : (specialRows.lookup (frameHeader f)).isSome = true) :
    decodeFormat f = .special (frameHeader f) (frameData f) := by
  simp only [decodeFormat, frame_selector, specialRows_selector _ hl, hl]
  rfl

theorem decodeFormat_unassigned {f : Frame} (hl : specialRows.lookup (frameHeader f) = none)
    (ha : headerAddress (frameHeader f) = none) : decodeFormat f = .unassigned (frameHeader f) := by
  simp only [decodeFormat, hl, ha]
  simp

/-! Header bytes. -/

theorem slaveHeader_roundtrip : ∀ a : Byte, a.toNat ≤ 63 → ∀ sel,
    headerAddress (headerByte .slave a sel) = some (.slave, a) ∧ (headerByte .slave a sel).getLsbD 0 = sel ∧
    (specialRows.lookup (headerByte .slave a sel)).isNone = true := by
  decide

theorem groupHeader_roundtrip : ∀ a : Byte, a.toNat ≤ 15 → ∀ sel,
    headerAddress (headerByte .group a sel) = some (.group, a) ∧ (headerByte .group a sel).getLsbD 0 = sel ∧
    (specialRows.lookup (headerByte .group a sel)).isNone = true := by
  decide

theorem broadcastHeader_roundtrip : ∀ sel,
    headerAddress (headerByte .broadcast 0 sel) = some (.broadcast, 0) ∧
    (headerByte .broadcast 0 sel).getLsbD 0 = sel ∧
    (specialRows.lookup (headerByte .broadcast 0 sel)).isNone = true := by
  decide

/-- The header byte of an encodable address gives back mode, address and selector, and is no special
header (30_encoding.md R89). -/
theorem headerByte_roundtrip {mode : Mode} {a : Byte} (h : mode.encodable a = true) (sel : Bool) :
    headerAddress (headerByte mode a sel) = some (mode, a) ∧ (headerByte mode a sel).getLsbD 0 = sel ∧
    specialRows.lookup (headerByte mode a sel) = none := by
  simp only [← Option.isNone_iff_eq_none]
  cases mode with
  | slave => exact slaveHeader_roundtrip a (of_decide_eq_true h) sel
  | group => exact groupHeader_roundtrip a (of_decide_eq_true h) sel
  | broadcast =>
    obtain rfl : a = 0 := beq_iff_eq.1 h
    exact broadcastHeader_roundtrip sel

theorem slaveRange_roundtrip : ∀ h : Byte, h.toNat < 0x80 →
    (h >>> 1).toNat ≤ 63 ∧ headerByte .slave (h >>> 1) (h.getLsbD 0) = h := by
  decide

theorem groupRange_roundtrip : ∀ h : Byte, ¬ h.toNat < 0x80 → h.toNat < 0xA0 →
    ((h >>> 1) &&& 0x0F).toNat ≤ 15 ∧ headerByte .group ((h >>> 1) &&& 0x0F) (h.getLsbD 0) = h := by
  decide

theorem broadcastRange_roundtrip : ∀ h : Byte, 0xFE ≤ h.toNat → headerByte .broadcast 0 (h.getLsbD 0) = h := by
  decide

/-- The mode and address read from a header byte are encodable, and with its selector they make that
header (30_encoding.md R89, R91). -/
theorem headerAddress_roundtrip {h : Byte} {mode : Mode} {a : Byte} (ha : headerAddress h = some (mode, a)) :
    mode.encodable a = true ∧ headerByte mode a (h.getLsbD 0) = h := by
  unfold headerAddress at ha
  split at ha
  · obtain ⟨rfl, rfl⟩ : Mode.slave = mode ∧ h >>> 1 = a := by simpa using ha
    obtain ⟨hr, hh⟩ := slaveRange_roundtrip h ‹_›
    exact ⟨decide_eq_true hr, hh⟩
  · split at ha
    · obtain ⟨rfl, rfl⟩ : Mode.group = mode ∧ (h >>> 1) &&& 0x0F = a := by simpa using ha
      obtain ⟨hr, hh⟩ := groupRange_roundtrip h ‹_› ‹_›
      exact ⟨decide_eq_true hr, hh⟩
    · split at ha
      · obtain ⟨rfl, rfl⟩ : Mode.broadcast = mode ∧ 0 = a := by simpa using ha
        exact ⟨rfl, broadcastRange_roundtrip h ‹_›⟩
      · cases ha

/-! The rows of the three lists. -/

/-- What `lookup` finds stands in the list. -/
theorem mem_of_lookup_eq_some {β : Type} {l : List (Byte × β)} {k : Byte} {b : β} (h : l.lookup k = some b) :
    (k, b) ∈ l := by
  obtain ⟨l₁, l₂, rfl, -⟩ := List.lookup_eq_some_iff.1 h
  simp

/-- The operands a data rule can carry (40_frame_codec.md R130, 30_encoding.md R95). -/
def DataRule.carries (rule : DataRule) (operand : Byte) : Bool :=
  match rule with
  | .zero => operand == 0
  | .data => true
  | .addr6 => decide (operand.toNat ≤ 63)

theorem plainRows_spec : ∀ e ∈ plainRows, ∀ (mode : Mode) (a : Byte),
    WellFormed (e.2 mode a) = mode.encodable a ∧ encode (e.2 mode a) = commandFrame mode a e.1 := by
  simp [plainRows, WellFormed, encode]

theorem paramRows_spec : ∀ e ∈ paramRows, ∀ (mode : Mode) (a p : Byte),
    WellFormed (e.2 mode a p) = (mode.encodable a && decide (p.toNat ≤ 15)) ∧
    encode (e.2 mode a p) = commandFrame mode a (e.1 ||| p) := by
  simp [paramRows, WellFormed, encode]

theorem specialRows_spec : ∀ e ∈ specialRows, ∀ operand : Byte,
    WellFormed (e.2.2 operand) = e.2.1.carries operand ∧
    encode (e.2.2 operand) = specialFrame e.1 e.2.1 operand := by
  simp [specialRows, WellFormed, encode, DataRule.carries]

/-- An opcode with its parameter is no plain opcode, and its two nibbles give both back
(30_encoding.md R94). -/
theorem paramRows_nibbles : ∀ c : Byte, (paramRows.lookup c).isSome = true → ∀ p : Byte, p.toNat ≤ 15 →
    plainRows.lookup (c ||| p) = none ∧ (c ||| p) &&& 0xF0 = c ∧ (c ||| p) &&& 0x0F = p := by
  simp only [← Option.isNone_iff_eq_none]
  decide

theorem byte_nibbles : ∀ d : Byte, (d &&& 0xF0) ||| (d &&& 0x0F) = d ∧ (d &&& 0x0F).toNat ≤ 15 := by
  decide

/-- A data rule reads back the operand it was given. -/
theorem specialOperand_specialData {rule : DataRule} {operand : Byte} (h : rule.carries operand = true) :
    specialOperand rule (specialData rule operand) = some operand := by
  cases rule with
  | zero =>
    obtain rfl : operand = 0 := beq_iff_eq.1 h
    rfl
  | data => rfl
  | addr6 =>
    have h := of_decide_eq_true h
    revert operand; decide

/-- The operand a data rule reads makes the data byte it was read from. -/
theorem specialData_specialOperand {rule : DataRule} {d operand : Byte} (h : specialOperand rule d = some operand) :
    rule.carries operand = true ∧ specialData rule operand = d := by
  cases rule with
  | zero =>
    obtain ⟨rfl, rfl⟩ : d = 0 ∧ 0 = operand := by simpa [specialOperand] using h
    exact ⟨rfl, rfl⟩
  | data => exact ⟨rfl, (Option.some.inj h).symm⟩
  | addr6 =>
    obtain ⟨hd, rfl⟩ : d &&& 0x81 = 0x01 ∧ d >>> 1 = operand := by simpa [specialOperand] using h
    revert d; decide

/-! Decoding what is encoded. -/

theorem decode_commandFrame {mode : Mode} {a : Byte} (h : mode.encodable a = true) (d : Byte) :
    decode (commandFrame mode a d) = decodeCommand mode a d := by
  obtain ⟨ha, hs, hl⟩ := headerByte_roundtrip h true
  rw [← frameHeader_mkFrame (headerByte mode a true) d] at ha hs hl
  rw [commandFrame, decode, decodeFormat_command hs hl ha, frameData_mkFrame, rowOfFormat]

theorem decode_arcFrame {mode : Mode} {a : Byte} (h : mode.encodable a = true) (b : Byte) :
    decode (arcFrame mode a b) = rowOfFormat (.arc mode a b) := by
  obtain ⟨ha, hs, -⟩ := headerByte_roundtrip h false
  rw [← frameHeader_mkFrame (headerByte mode a false) b] at ha hs
  rw [arcFrame, decode, decodeFormat_arc hs ha, frameData_mkFrame]

theorem decode_plainRow {mode : Mode} {a c : Byte} {build : Mode → Byte → Instr}
    (hl : plainRows.lookup c = some build) (h : mode.encodable a = true) :
    decode (commandFrame mode a c) = .ok (build mode a) := by
  simp only [decode_commandFrame h, decodeCommand, hl]

theorem decode_paramRow {mode : Mode} {a c p : Byte} {build : Mode → Byte → Byte → Instr}
    (hl : paramRows.lookup c = some build) (h : (mode.encodable a && decide (p.toNat ≤ 15)) = true) :
    decode (commandFrame mode a (c ||| p)) = .ok (build mode a p) := by
  obtain ⟨ha, hp⟩ : mode.encodable a = true ∧ p.toNat ≤ 15 := by simpa using h
  obtain ⟨hplain, hhigh, hlow⟩ := paramRows_nibbles c (by simp [hl]) p hp
  simp only [decode_commandFrame ha, decodeCommand, hplain, hhigh, hlow, hl]

theorem decode_specialRow {c operand : Byte} {rule : DataRule} {build : Byte → Instr}
    (hl : specialRows.lookup c = some (rule, build)) (h : rule.carries operand = true) :
    decode (specialFrame c rule operand) = .ok (build operand) := by
  have hf := decodeFormat_special (f := mkFrame c (specialData rule operand)) (by simp [hl])
  simp only [specialFrame, decode, hf, frameHeader_mkFrame, frameData_mkFrame, rowOfFormat, decodeSpecial, hl,
    specialOperand_specialData h]

/-- A request that reads the mode gets back the mode its code was made of. -/
theorem withMode_codeOfMode (mode : Mode) (build : Mode → Instr) :
    withMode (codeOfMode mode) build = .ok (build mode) := by
  cases mode <;> rfl

/-- Settles O7: by the kind of row, each kind read back from its header, its selector and its data byte. -/
theorem decodeEncode : Obligations.DecodeEncode := by
  unfold Obligations.DecodeEncode
  intro i h
  cases i with
  | setup | transmit | receive | classify | tmode | encSpecial => rfl
  | arc mode | send mode | encArc mode | encCmd mode | encParam mode => exact withMode_codeOfMode mode _
  | directArcS a b => exact decode_arcFrame (mode := .slave) h b
  | directArcG a b => exact decode_arcFrame (mode := .group) h b
  | directArcB b => exact decode_arcFrame (mode := .broadcast) (a := 0) rfl b
  | goToScene | storeDtrAsScene | removeFromScene | addToGroup | removeFromGroup | querySceneLevel =>
    exact decode_paramRow rfl h
  | terminate | dataTransferRegister | initialise | randomise | compare | withdraw | searchaddrh | searchaddrm
    | searchaddrl | programShortAddress | verifyShortAddress | queryShortAddress | physicalSelection
    | enableDeviceTypeX => exact decode_specialRow rfl h
  | _ => exact decode_plainRow rfl h

/-! Encoding what is decoded. -/

/-- A command format that is a row of the table is a plain row or a row with its parameter. -/
theorem decodeCommand_cases {mode : Mode} {a d : Byte} {i : Instr} (h : decodeCommand mode a d = .ok i) :
    (∃ build, (d, build) ∈ plainRows ∧ i = build mode a) ∨
    ∃ c p build, (c, build) ∈ paramRows ∧ p.toNat ≤ 15 ∧ d = c ||| p ∧ i = build mode a p := by
  unfold decodeCommand at h
  split at h
  · rename_i build hl
    exact .inl ⟨build, mem_of_lookup_eq_some hl, (Except.ok.inj h).symm⟩
  · split at h
    · rename_i build hl
      obtain ⟨hd, hp⟩ := byte_nibbles d
      exact .inr ⟨_, _, build, mem_of_lookup_eq_some hl, hp, hd.symm, (Except.ok.inj h).symm⟩
    · cases h

/-- A special format that is a row of the table carries an operand of the row's data rule. -/
theorem decodeSpecial_cases {h d : Byte} {i : Instr} (hi : decodeSpecial h d = .ok i) :
    ∃ rule operand build, (h, rule, build) ∈ specialRows ∧ rule.carries operand = true ∧
      d = specialData rule operand ∧ i = build operand := by
  unfold decodeSpecial at hi
  split at hi
  · rename_i rule build hl
    split at hi
    · rename_i operand ho
      obtain ⟨hc, hd⟩ := specialData_specialOperand ho
      exact ⟨rule, operand, build, mem_of_lookup_eq_some hl, hc, hd.symm, (Except.ok.inj hi).symm⟩
    · cases hi
  · cases hi

/-- A frame that is a row of the table: a direct arc, a command or a special frame, by its header. -/
theorem decode_frame_cases {f : Frame} {i : Instr} (h : decode (.frame f) = .ok i) :
    (∃ mode a b, mode.encodable a = true ∧ .frame f = arcFrame mode a b ∧ rowOfFormat (.arc mode a b) = .ok i) ∨
    (∃ mode a d, mode.encodable a = true ∧ .frame f = commandFrame mode a d ∧ decodeCommand mode a d = .ok i) ∨
    ∃ h d, f = mkFrame h d ∧ decodeSpecial h d = .ok i := by
  have hbytes := mkFrame_bytes f
  rw [decode] at h
  cases hl : specialRows.lookup (frameHeader f) with
  | some row =>
    rw [decodeFormat_special (by simp [hl])] at h
    exact .inr (.inr ⟨_, _, hbytes.symm, h⟩)
  | none =>
    cases ha : headerAddress (frameHeader f) with
    | none =>
      rw [decodeFormat_unassigned hl ha] at h
      cases h
    | some modeAddress =>
      obtain ⟨mode, a⟩ := modeAddress
      obtain ⟨henc, hh⟩ := headerAddress_roundtrip ha
      cases hs : (frameHeader f).getLsbD 0 with
      | false =>
        rw [decodeFormat_arc hs ha] at h
        rw [hs] at hh
        exact .inl ⟨mode, a, _, henc, by rw [arcFrame, hh, hbytes], h⟩
      | true =>
        rw [decodeFormat_command hs hl ha] at h
        rw [hs] at hh
        exact .inr (.inl ⟨mode, a, _, henc, by rw [commandFrame, hh, hbytes], h⟩)

/-- A direct arc format with an encodable address is the encoding of its row. -/
theorem encode_of_arcFormat {mode : Mode} {a b : Byte} {i : Instr} (ha : mode.encodable a = true)
    (h : rowOfFormat (.arc mode a b) = .ok i) : WellFormed i = true ∧ encode i = arcFrame mode a b := by
  cases mode with
  | slave => obtain rfl := Except.ok.inj h; exact ⟨ha, rfl⟩
  | group => obtain rfl := Except.ok.inj h; exact ⟨ha, rfl⟩
  | broadcast =>
    obtain rfl := Except.ok.inj h
    obtain rfl : a = 0 := beq_iff_eq.1 ha
    exact ⟨rfl, rfl⟩

/-- Settles O8: a frame that is a row is the frame of that row's encoding, kind by kind. -/
theorem frameDecodesToItsEncoding : Obligations.FrameDecodesToItsEncoding := by
  unfold Obligations.FrameDecodesToItsEncoding
  intro f i h
  obtain ⟨mode, a, b, ha, hf, hrow⟩ | ⟨mode, a, d, ha, hf, hrow⟩ | ⟨c, d, rfl, hrow⟩ := decode_frame_cases h
  · rw [hf]
    exact encode_of_arcFormat ha hrow
  · rw [hf]
    obtain ⟨build, hmem, rfl⟩ | ⟨c, p, build, hmem, hp, rfl, rfl⟩ := decodeCommand_cases hrow
    · obtain ⟨hw, he⟩ := plainRows_spec _ hmem mode a
      exact ⟨hw.trans ha, he⟩
    · obtain ⟨hw, he⟩ := paramRows_spec _ hmem mode a p
      exact ⟨hw.trans (by rw [ha, decide_eq_true hp]; rfl), he⟩
  · obtain ⟨rule, operand, build, hmem, hc, rfl, rfl⟩ := decodeSpecial_cases hrow
    obtain ⟨hw, he⟩ := specialRows_spec _ hmem operand
    exact ⟨hw.trans hc, he⟩

end Sys2Proof
end

section
/-! SUPPORT. What the codec and the bodies of the requests can answer: which errors, and which of the three
ways the body of a transmitting request goes on (43_dispatcher.md R291, R298). -/

namespace Sys2Proof.Machine

/-- The errors of the codec (40_frame_codec.md section 2). -/
def Status.ofCodec (st : Status) : Prop := st = .wrongAddress ∨ st = .wrongCommand ∨ st = .reservedCommand

theorem encodeArc_error {mode : Mode} {a b : Byte} {st : Status} (h : encodeArc mode a b = .error st) :
    st = .wrongAddress := by
  unfold encodeArc at h
  split at h
  · cases h
  · exact (Except.error.inj h).symm

theorem encodeAddressed_error {mode : Mode} {a d : Byte} {st : Status}
    (h : encodeAddressed mode a d = .error st) : st.ofCodec := by
  unfold encodeAddressed at h
  split at h
  · cases h
  · exact .inl (Except.error.inj h).symm

theorem encodeCommand_error {t : Tables} {mode : Mode} {a c : Byte} {st : Status}
    (h : encodeCommand t mode a c = .error st) : st.ofCodec := by
  unfold encodeCommand at h
  split at h
  · exact .inr (.inr (Except.error.inj h).symm)
  · split at h
    · exact .inr (.inl (Except.error.inj h).symm)
    · exact encodeAddressed_error h

theorem encodeParam_error {t : Tables} {mode : Mode} {a c p : Byte} {st : Status}
    (h : encodeParam t mode a c p = .error st) : st.ofCodec := by
  unfold encodeParam at h
  split at h
  · exact .inr (.inl (Except.error.inj h).symm)
  · split at h
    · exact .inr (.inl (Except.error.inj h).symm)
    · exact encodeAddressed_error h

theorem encodeData_error {rule : DataRule} {d : Byte} {st : Status} (h : encodeData rule d = .error st) :
    st = .wrongAddress := by
  unfold encodeData at h
  split at h
  · exact (Except.error.inj h).symm
  · cases h

theorem encodeSpecial_error {t : Tables} {c d : Byte} {st : Status} (h : encodeSpecial t c d = .error st) :
    st.ofCodec := by
  unfold encodeSpecial at h
  split at h
  · exact .inr (.inl (Except.error.inj h).symm)
  · split at h
    · rename_i hd
      obtain rfl := Except.error.inj h
      exact .inl (encodeData_error hd)
    · cases h

theorem encodeEntry_error {t : Tables} {e : CmdEntry} {mode : Mode} {c a p : Byte} {st : Status}
    (h : encodeEntry t e mode c a p = .error st) : st.ofCodec := by
  unfold encodeEntry at h
  split at h
  · exact encodeCommand_error h
  · exact encodeParam_error h
  · exact encodeSpecial_error h

theorem encodeSend_error {t : Tables} {mode : Mode} {c a p : Byte} {st : Status}
    (h : encodeSend t mode c a p = .error st) : st.ofCodec := by
  unfold encodeSend at h
  split at h
  · exact .inr (.inl (Except.error.inj h).symm)
  · split at h
    · rename_i he
      obtain rfl := Except.error.inj h
      exact encodeEntry_error he
    · cases h

theorem classifyCmd_error {t : Tables} {c : Byte} {st : Status} (h : classifyCmd t c = .error st) :
    st.ofCodec := by
  unfold classifyCmd at h
  split at h
  · exact .inr (.inl (Except.error.inj h).symm)
  · cases h

theorem tmodeCmd_error {t : Tables} {c : Byte} {st : Status} (h : tmodeCmd t c = .error st) : st.ofCodec := by
  unfold tmodeCmd at h
  split at h
  · exact .inr (.inl (Except.error.inj h).symm)
  · cases h

/-- The body of a request, by its kind; a codec request answers with a value or an error of the codec. -/
inductive RequestBody : (State → State) → Prop
  | setup (baud : Word32) (txbits rxbits stop txpin rxpin : Byte) :
    RequestBody (setupBody baud txbits rxbits stop txpin rxpin)
  | receive : RequestBody receiveBody
  | codec (r : Except Status (BitVec 16)) (h : ∀ st, r = .error st → st.ofCodec) : RequestBody (answer r)
  | guarded (job : Job) : RequestBody (withCs job)

/-- Only the value of a lookup is mapped to its code, its error stays. -/
theorem map_error {α β : Type} {f : α → β} {r : Except Status α} (hr : ∀ st, r = .error st → st.ofCodec) :
    ∀ st, r.map f = .error st → st.ofCodec := by
  cases r with
  | ok v => exact nofun
  | error e =>
    rintro st ⟨⟩
    exact hr e rfl

/-- Every instruction is a request of one of the four kinds. -/
theorem exec_requestBody (i : Instr) (s : State) : ∃ body, RequestBody body ∧ exec i s = request body s := by
  cases i with
  | setup => exact ⟨_, .setup _ _ _ _ _ _, rfl⟩
  | receive => exact ⟨_, .receive, rfl⟩
  | classify => exact ⟨_, .codec _ (map_error fun _ => classifyCmd_error), rfl⟩
  | tmode => exact ⟨_, .codec _ (map_error fun _ => tmodeCmd_error), rfl⟩
  | encArc => exact ⟨_, .codec _ (fun _ h => .inl (encodeArc_error h)), rfl⟩
  | encCmd => exact ⟨_, .codec _ (fun _ => encodeCommand_error), rfl⟩
  | encParam => exact ⟨_, .codec _ (fun _ => encodeParam_error), rfl⟩
  | encSpecial => exact ⟨_, .codec _ (fun _ => encodeSpecial_error), rfl⟩
  | _ => exact ⟨_, .guarded _, rfl⟩

/-- Everything the body of a transmitting request can do: a raw transmission, the first transmission of an
encoded frame, or an error before any pin write. -/
theorem runJob_cases (job : Job) (s : State) :
    (s.cfgValid = true ∧ ∃ value, runJob job s = transmit value s) ∨
    (s.cfgValid = true ∧ ∃ tmode f, runJob job s = dispatch tmode f s) ∨
    ∃ st : Status, (st = .notConfigured ∨ st.ofCodec) ∧ runJob job s = raise st s := by
  unfold runJob
  split
  · rename_i hv
    cases job with
    | transmit value => exact .inl ⟨hv, value, rfl⟩
    | arc mode address brightness =>
      simp only [arcBody]
      split
      · rename_i st h
        exact .inr (.inr ⟨st, .inr (.inl (encodeArc_error h)), rfl⟩)
      · exact .inr (.inl ⟨hv, _, _, rfl⟩)
    | send mode command address param =>
      simp only [sendBody]
      split
      · rename_i st h
        exact .inr (.inr ⟨st, .inr (encodeSend_error h), rfl⟩)
      · exact .inr (.inl ⟨hv, _, _, rfl⟩)
  · exact .inr (.inr ⟨_, .inl rfl, rfl⟩)

end Sys2Proof.Machine
end

section
/-! SUPPORT. The coherence of a state by the place in the pseudocode: what holds wherever the block is between
requests, wherever an attempt to transmit is active, and wherever the receiver runs. -/

namespace Sys2Proof.Safety

open Sys2Proof.Machine

/-! Places. -/

theorem sendingSymbol_of_holdingSymbol {c : Ctl} (h : holdingSymbol c = true) : sendingSymbol c = true := by
  cases c <;> simp_all [holdingSymbol, sendingSymbol]

theorem transmitting_of_sendingSymbol {c : Ctl} (h : sendingSymbol c = true) : transmitting c = true := by
  cases c <;> simp_all [transmitting, sendingSymbol]

theorem insideCs_of_transmitting {c : Ctl} (h : transmitting c = true) : insideCs c = true := by
  cases c <;> simp_all [transmitting, sendingSymbol, insideCs]

theorem receiving_outside_of_transmitting {c : Ctl} (h : transmitting c = true) :
    waitingForEdge c = false ∧ sampling c = false := by
  cases c <;> simp_all [transmitting, sendingSymbol, waitingForEdge, sampling]

theorem insideCs_of_receiving {c : Ctl} (h : waitingForEdge c = true ∨ sampling c = true) : insideCs c = false := by
  cases c <;> simp_all [transmitting, sendingSymbol, insideCs, waitingForEdge, sampling]

/-! Responses. -/

theorem responseLegal_ok (v : BitVec 16) : ResponseLegal (okResponse v) :=
  ⟨(nomatch ·), fun h => absurd rfl h⟩

theorem responseLegal_timeout : ResponseLegal timeoutResponse :=
  ⟨fun _ => rfl, fun _ h => absurd rfl h⟩

theorem responseLegal_err {st : Status} (h : st ≠ .receiveTimeout) : ResponseLegal (errResponse st) :=
  ⟨fun h' => absurd h' h, fun _ _ => rfl⟩

/-- The statuses of a body's errors are none of those of the line. -/
theorem ofCodec_ne {st : Status} (h : st = .notConfigured ∨ st.ofCodec) :
    st ≠ .ok ∧ st ≠ .transmissionFailed ∧ st ≠ .receiveTimeout := by
  obtain rfl | rfl | rfl | rfl := h <;> decide

/-! Counts of a legal configuration. -/

theorem symCount_le {s : State} (hc : ConfigLegal s) (hv : s.cfgValid = true) :
    symCount s.cfgTxbits.toNat s.cfgStop.toNat ≤ 38 := by
  obtain ⟨-, htx, -, hstop, -⟩ := (configLegal_iff s).1 hc hv
  unfold symCount
  omega

theorem windowCount_le {s : State} (hc : ConfigLegal s) (hv : s.cfgValid = true) :
    windowCount s.cfgRxbits.toNat s.cfgStop.toNat ≤ 36 := by
  obtain ⟨-, -, hrx, hstop, -⟩ := (configLegal_iff s).1 hc hv
  unfold windowCount
  omega

/-! What holds between two requests. -/

/-- Transmitter and Dispatcher are idle; their registers and `RX_K` keep their bounds. -/
def Standby (s : State) : Prop :=
  ConfigLegal s ∧ s.txState = .idle ∧
  (s.txNsym.toNat ≤ 38 ∧ s.txSym.toNat ≤ 37 ∧ s.txSeq.length = s.txNsym.toNat) ∧
  s.rxK.toNat ≤ 35 ∧ s.dspState = .idle

/-- A request is active and has no response yet. -/
def Active (s : State) : Prop := s.reqBusy = true ∧ s.response = none

theorem Coherent.standby {s : State} (h : Coherent s) (ht : transmitting s.ctl = false)
    (hg : s.ctl ≠ .repeatGap) : Standby s :=
  ⟨h.config, h.tx.quiet ht, h.tx.bounds, h.rx.bounds, h.dsp.quiet ht hg⟩

theorem Coherent.active {s : State} (h : Coherent s) (hc : s.ctl ≠ .idle) : Active s :=
  have hb := h.busy.2 hc
  ⟨hb, h.unanswered hb⟩

theorem Coherent.csInactive {s : State} (h : Coherent s) (hi : insideCs s.ctl = false) : s.csActive = false := by
  rw [← Bool.not_eq_true]
  intro hcs
  have := (h.dsp.guard.1 hcs).2
  simp [hi] at this

theorem txCoherent_of_quiet {s : State} (ht : transmitting s.ctl = false) (hidle : s.txState = .idle)
    (hb : s.txNsym.toNat ≤ 38 ∧ s.txSym.toNat ≤ 37 ∧ s.txSeq.length = s.txNsym.toNat) : TxCoherent s := by
  have not_transmitting {P : Prop} (h : transmitting s.ctl = true) : P := by simp [ht] at h
  have of_eq {P : Prop} {c : Ctl} (hc : transmitting c = true) (h : s.ctl = c) : P := not_transmitting (h ▸ hc)
  exact
    { sequence := not_transmitting
      index := not_transmitting
      phase := fun h => not_transmitting (transmitting_of_sendingSymbol h)
      held := fun h => h.elim
        (fun h => not_transmitting (transmitting_of_sendingSymbol (sendingSymbol_of_holdingSymbol h))) (of_eq rfl)
      settling := of_eq rfl
      pausing := of_eq rfl
      quiet := fun _ => hidle
      busyDelay := of_eq rfl
      timerWait := fun h => h.elim (of_eq rfl) (of_eq rfl)
      noRetry := fun _ => not_transmitting
      bounds := hb }

theorem rxCoherent_of_quiet {s : State} (hw : waitingForEdge s.ctl = false) (hs : sampling s.ctl = false)
    (hidle : s.rxState = .idle) (hk : s.rxK.toNat ≤ 35) : RxCoherent s where
  window := by simp [hs]
  used := by simp [hs]
  waiting := by simp [hw]
  quiet := fun _ _ => hidle
  bounds := hk

theorem rxCoherent_of_waiting {s : State} (hw : waitingForEdge s.ctl = true) (hr : s.rxState = .edgeWait)
    (hk : s.rxK.toNat ≤ 35) : RxCoherent s := by
  have hs : sampling s.ctl = false := by
    cases hc : s.ctl <;> simp_all [waitingForEdge, sampling]
  exact
    { window := by simp [hs]
      used := by simp [hs]
      waiting := fun _ => hr
      quiet := by simp [hw]
      bounds := hk }

theorem rxCoherent_of_sampling {s : State} (hs : sampling s.ctl = true)
    (hk : s.rxK.toNat < windowCount s.cfgRxbits.toNat s.cfgStop.toNat)
    (hr : s.rxState = rxPhase s.cfgRxbits.toNat s.rxK.toNat)
    (hu : s.rxShift.toNat < 2 ^ min s.rxK.toNat (2 * s.cfgRxbits.toNat)) (hb : s.rxK.toNat ≤ 35) :
    RxCoherent s := by
  have hw : waitingForEdge s.ctl = false := by
    cases hc : s.ctl <;> simp_all [waitingForEdge, sampling]
  exact
    { window := fun _ => ⟨hk, hr⟩
      used := fun _ => hu
      waiting := by simp [hw]
      quiet := by simp [hs]
      bounds := hb }

/-- The Dispatcher's part of coherence wherever interrupts are not held. -/
theorem dspCoherent_outside {s : State} (hctl : insideCs s.ctl = false) (hidle : s.dspState = .idle)
    (hcs : s.csActive = false) (henter : ∀ job, s.ctl = .csEnter job → s.params.txVariant = .busyDelay) :
    DspCoherent s := by
  have outside {P : Prop} {c : Ctl} (hc : insideCs c = true) (h : s.ctl = c) : P := by simp [h, hc] at hctl
  have not_transmitting {P : Prop} (h : transmitting s.ctl = true) : P := outside (insideCs_of_transmitting h) rfl
  exact
    { notGap := not_transmitting
      gap := outside rfl
      quiet := fun _ _ => hidle
      frame := not_transmitting
      second := by simp [hidle]
      guard := by simp [hcs, hctl]
      enter := henter
      exit := fun _ _ => outside rfl }

/-- A request that is active where interrupts are not held. -/
theorem coherent_outside {s : State} (h : Standby s) (ha : Active s) (hcs : s.csActive = false)
    (hctl : insideCs s.ctl = false) (hne : s.ctl ≠ .idle)
    (henter : ∀ job, s.ctl = .csEnter job → s.params.txVariant = .busyDelay)
    (hv : needsConfig s.ctl = true → s.cfgValid = true) (hrx : RxCoherent s) : Coherent s := by
  obtain ⟨hconfig, htx, hbounds, -, hdsp⟩ := h
  obtain ⟨hbusy, hresp⟩ := ha
  have ht : transmitting s.ctl = false := by
    rw [← Bool.not_eq_true]
    intro ht
    simp [insideCs_of_transmitting ht] at hctl
  exact
    { config := hconfig
      busy := by simp [hbusy, hne]
      unanswered := fun _ => hresp
      legalAnswer := by simp [hresp]
      configured := hv
      tx := txCoherent_of_quiet ht htx hbounds
      rx := hrx
      dsp := dspCoherent_outside hctl hdsp hcs henter }

/-- The block is idle. -/
theorem coherent_idle {s : State} (h : Standby s) (hrx : s.rxState = .idle) (hcs : s.csActive = false)
    (hbusy : s.reqBusy = false) (hctl : s.ctl = .idle) (hl : ∀ r, s.response = some r → ResponseLegal r) :
    Coherent s := by
  obtain ⟨hconfig, htx, hbounds, hk, hdsp⟩ := h
  exact
    { config := hconfig
      busy := by simp [hbusy, hctl]
      unanswered := by simp [hbusy]
      legalAnswer := hl
      configured := by simp [hctl, needsConfig, transmitting, sendingSymbol, waitingForEdge, sampling, settingUp]
      tx := txCoherent_of_quiet (by rw [hctl]; rfl) htx hbounds
      rx := rxCoherent_of_quiet (by rw [hctl]; rfl) (by rw [hctl]; rfl) hrx hk
      dsp := dspCoherent_outside (by rw [hctl]; rfl) hdsp hcs (by simp [hctl]) }

/-- A request that ends with interrupts not held. -/
theorem coherent_respond {r : Response} {s : State} (h : Standby s) (hrx : s.rxState = .idle)
    (hcs : s.csActive = false) (hr : ResponseLegal r) : Coherent (respond r s) :=
  coherent_idle h hrx hcs rfl rfl (by rintro r' ⟨⟩; exact hr)

/-- A request that is about to restore interrupts. -/
theorem coherent_csExit {r : Response} {prior : Option Nat} {s : State} (h : Standby s) (ha : Active s)
    (hrx : s.rxState = .idle) (hcs : s.csActive = true) (hvar : s.params.txVariant = .busyDelay)
    (hr : ResponseLegal r) (hst : r.status ≠ .transmissionFailed ∧ r.status ≠ .receiveTimeout)
    (hp : prior.isSome = true ↔ r.status ≠ .ok) (hctl : s.ctl = .csExit r prior) : Coherent s := by
  obtain ⟨hconfig, htx, hbounds, hk, hdsp⟩ := h
  obtain ⟨hbusy, hresp⟩ := ha
  obtain ⟨hst1, hst2⟩ := hst
  exact
    { config := hconfig
      busy := by simp [hbusy, hctl]
      unanswered := fun _ => hresp
      legalAnswer := by simp [hresp]
      configured := by simp [hctl, needsConfig, transmitting, sendingSymbol, waitingForEdge, sampling, settingUp]
      tx := txCoherent_of_quiet (by rw [hctl]; rfl) htx hbounds
      rx := rxCoherent_of_quiet (by rw [hctl]; rfl) (by rw [hctl]; rfl) hrx hk
      dsp :=
        { notGap := by simp [hdsp]
          gap := by simp [hctl]
          quiet := fun _ _ => hdsp
          frame := by simp [hdsp]
          second := by simp [hdsp]
          guard := by simp [hcs, hvar, hctl, insideCs]
          enter := by simp [hctl]
          exit := by
            intro r' prior' h'
            obtain ⟨rfl, rfl⟩ : r = r' ∧ prior = prior' := by simpa [hctl] using h'
            exact ⟨hvar, hr, hst1, hst2, hp⟩ } }

/-! What holds while `Transmit` is active. -/

/-- Everything around a transmission of a value that does not depend on its progress: the configuration, the
request, the receiver, the Dispatcher and the interrupt guard. -/
def Carries (value : BitVec 16) (s : State) : Prop :=
  (ConfigLegal s ∧ s.cfgValid = true) ∧ Active s ∧ (s.rxState = .idle ∧ s.rxK.toNat ≤ 35) ∧
  (s.dspState ≠ .gap ∧ (s.dspState ≠ .idle → value = s.dspFrame) ∧
    (s.dspState = .tx2 → s.dspTmode = .repeatTwice)) ∧
  (s.csActive = true ↔ s.params.txVariant = .busyDelay)

/-- The registers an attempt computes hold what it computes (10_state.md R32). -/
def Loaded (s : State) : Prop :=
  s.txSeq = symSeq s.txValue s.cfgTxbits.toNat s.cfgStop.toNat ∧
  s.txNsym.toNat = symCount s.cfgTxbits.toNat s.cfgStop.toNat ∧ s.txHb = halfBit s.cfgBaud

/-- An attempt to transmit is active, whatever its progress. -/
def Attempting (s : State) : Prop :=
  Carries s.txValue s ∧ Loaded s ∧ s.txSym.toNat < s.txNsym.toNat ∧
  (s.params.txVariant = .busyDelay → s.txRetries = 0)

theorem Coherent.attempting {s : State} (h : Coherent s) (ht : transmitting s.ctl = true) : Attempting s := by
  have hne : s.ctl ≠ .idle := by
    intro hc; simp [hc, transmitting, sendingSymbol] at ht
  obtain ⟨hw, hs⟩ := receiving_outside_of_transmitting ht
  refine ⟨⟨⟨h.config, h.configured (by simp [needsConfig, ht])⟩, h.active hne, ⟨h.rx.quiet hw hs, h.rx.bounds⟩,
    ⟨h.dsp.notGap ht, h.dsp.frame ht, fun h2 => h.dsp.second (.inr h2)⟩, ?_⟩, h.tx.sequence ht, h.tx.index ht,
    fun hv => h.tx.noRetry hv ht⟩
  simp [h.dsp.guard, insideCs_of_transmitting ht]

theorem Attempting.bounds {s : State} (h : Attempting s) :
    s.txNsym.toNat ≤ 38 ∧ s.txSym.toNat ≤ 37 ∧ s.txSeq.length = s.txNsym.toNat := by
  obtain ⟨⟨⟨hconfig, hv⟩, -⟩, ⟨hseq, hn, -⟩, hi, -⟩ := h
  have hle := symCount_le hconfig hv
  refine ⟨hn ▸ hle, by omega, ?_⟩
  rw [hseq, symSeq_length, hn]

/-- A place of an active attempt is coherent where the phase and the line agree with it. -/
theorem coherent_of_attempting {s : State} (h : Attempting s) (ht : transmitting s.ctl = true)
    (hphase : sendingSymbol s.ctl = true → s.txState = txPhase s.cfgTxbits.toNat s.txSym.toNat)
    (hheld : holdingSymbol s.ctl = true ∨ s.ctl = .txPause → s.txLine = s.txSeq[s.txSym.toNat]?)
    (hsettle : s.ctl = .txSettle → s.txState = .settle ∧ s.txLine = some .high)
    (hpause : s.ctl = .txPause → s.txState = .retry ∧ s.params.txVariant = .timerWait)
    (hbd : s.ctl = .txHold → s.params.txVariant = .busyDelay)
    (htw : s.ctl = .txStart ∨ s.ctl = .txPoll → s.params.txVariant = .timerWait) : Coherent s := by
  have hbounds := h.bounds
  obtain ⟨⟨⟨hconfig, hv⟩, ⟨hbusy, hresp⟩, ⟨hrx, hk⟩, ⟨hgap, hframe, hsecond⟩, hguard⟩, hloaded, hi, hr⟩ := h
  obtain ⟨hw, hs⟩ := receiving_outside_of_transmitting ht
  have ne {c : Ctl} (hc : transmitting c = false) : s.ctl ≠ c := by
    rintro rfl; simp [hc] at ht
  exact
    { config := hconfig
      busy := by simp [hbusy, ne (c := .idle) rfl]
      unanswered := fun _ => hresp
      legalAnswer := by simp [hresp]
      configured := fun _ => hv
      tx :=
        { sequence := fun _ => hloaded
          index := fun _ => hi
          phase := hphase
          held := hheld
          settling := hsettle
          pausing := hpause
          quiet := by simp [ht]
          busyDelay := hbd
          timerWait := htw
          noRetry := fun hv _ => hr hv
          bounds := hbounds }
      rx := rxCoherent_of_quiet hw hs hrx hk
      dsp :=
        { notGap := fun _ => hgap
          gap := fun h => absurd h (ne rfl)
          quiet := by simp [ht]
          frame := fun _ => hframe
          second := fun h => h.elim (fun h => absurd h hgap) hsecond
          guard := by simp [hguard, insideCs_of_transmitting ht]
          enter := fun _ h => absurd h (ne rfl)
          exit := fun _ _ h => absurd h (ne rfl) } }

/-- A symbol is due. -/
theorem coherent_txWrite {s : State} (h : Attempting s) (hctl : s.ctl = .txWrite)
    (hp : s.txState = txPhase s.cfgTxbits.toNat s.txSym.toNat) : Coherent s :=
  coherent_of_attempting h (by rw [hctl]; rfl) (fun _ => hp) (by simp [hctl, holdingSymbol]) (by simp [hctl])
    (by simp [hctl]) (by simp [hctl]) (by simp [hctl])

/-- A symbol has been written and is being held. -/
theorem coherent_holding {s : State} (h : Attempting s) (hctl : holdingSymbol s.ctl = true)
    (hp : s.txState = txPhase s.cfgTxbits.toNat s.txSym.toNat) (hline : s.txLine = s.txSeq[s.txSym.toNat]?)
    (hbd : s.ctl = .txHold → s.params.txVariant = .busyDelay)
    (htw : s.ctl = .txStart ∨ s.ctl = .txPoll → s.params.txVariant = .timerWait) : Coherent s := by
  have ne {c : Ctl} (hc : holdingSymbol c = false) : s.ctl ≠ c := by
    rintro rfl; simp [hc] at hctl
  exact coherent_of_attempting h (transmitting_of_sendingSymbol (sendingSymbol_of_holdingSymbol hctl))
    (fun _ => hp) (fun _ => hline) (fun h => absurd h (ne rfl)) (fun h => absurd h (ne rfl)) hbd htw

/-- The settle is due. -/
theorem coherent_txSettle {s : State} (h : Attempting s) (hctl : s.ctl = .txSettle) (hp : s.txState = .settle)
    (hline : s.txLine = some .high) : Coherent s :=
  coherent_of_attempting h (by rw [hctl]; rfl) (by simp [hctl, sendingSymbol]) (by simp [hctl, holdingSymbol])
    (fun _ => ⟨hp, hline⟩) (by simp [hctl]) (by simp [hctl]) (by simp [hctl])

/-- The pause after a wrap is due. -/
theorem coherent_txPause {s : State} (h : Attempting s) (hctl : s.ctl = .txPause) (hp : s.txState = .retry)
    (hline : s.txLine = s.txSeq[s.txSym.toNat]?) (hvar : s.params.txVariant = .timerWait) : Coherent s :=
  coherent_of_attempting h (by rw [hctl]; rfl) (by simp [hctl, sendingSymbol]) (fun _ => hline) (by simp [hctl])
    (fun _ => ⟨hp, hvar⟩) (by simp [hctl]) (by simp [hctl])

end Sys2Proof.Safety
end

section
/-! PROOF. Every step keeps the registers coherent: one lemma per event of the pseudocode, one per request
body, and the step (10_state.md R30, R33, R43). -/

namespace Sys2Proof.Safety

open Sys2Proof.Machine

/-! The transmitter. -/

/-- A new attempt for the value the registers hold. -/
theorem coherent_startAttempt {s : State} (h : Carries s.txValue s)
    (hr : s.params.txVariant = .busyDelay → s.txRetries = 0) : Coherent (startAttempt s) := by
  obtain ⟨⟨hconfig, hv⟩, hrest⟩ := h
  have hle := symCount_le hconfig hv
  have hn : (BitVec.ofNat 6 (symCount s.cfgTxbits.toNat s.cfgStop.toNat)).toNat =
      symCount s.cfgTxbits.toNat s.cfgStop.toNat := by
    rw [BitVec.toNat_ofNat]; omega
  have hpos : 0 < (startAttempt s).txNsym.toNat := hn.symm ▸ symCount_pos _ _
  exact coherent_txWrite (s := startAttempt s) ⟨⟨⟨hconfig, hv⟩, hrest⟩, ⟨rfl, hn, rfl⟩, hpos, hr⟩ rfl rfl

theorem coherent_transmit {value : BitVec 16} {s : State} (h : Carries value s) :
    Coherent (transmit value s) :=
  coherent_startAttempt (s := { s with txValue := value, txRetries := 0 }) h (fun _ => rfl)

/-- The first symbol of a sequence is written, or a later one. -/
theorem coherent_txWriteEvent {s t : State} (h : Coherent s) (hc : s.ctl = .txWrite)
    (he : txWriteEvent s = .next t) : Coherent t := by
  have ha := h.attempting (by rw [hc]; rfl)
  have hp := h.tx.phase (by rw [hc]; rfl)
  obtain ⟨l, hl, rfl⟩ := txWriteEvent_next he
  have ha' : Attempting { writeTx l s with ctl := holdOf s.params.txVariant } := ha
  cases hv : s.params.txVariant with
  | timerWait =>
    rw [hv] at ha'
    exact coherent_holding ha' rfl hp hl.symm (by simp [holdOf]) (fun _ => hv)
  | busyDelay =>
    rw [hv] at ha'
    exact coherent_holding ha' rfl hp hl.symm (fun _ => hv) (by simp [holdOf])

/-- The last symbol of a sequence is a stop symbol, High (41_line_encoder.md R225). -/
theorem last_symbol_high {s : State} (h : Attempting s) (hlast : ¬ s.txSym.toNat + 1 < s.txNsym.toNat) :
    s.txSeq[s.txSym.toNat]? = some .high := by
  obtain ⟨⟨⟨hconfig, hv⟩, -⟩, ⟨hseq, hn, -⟩, hi, -⟩ := h
  obtain ⟨-, -, -, hstop, -⟩ := (configLegal_iff s).1 hconfig hv
  have hcount : s.txNsym.toNat = 2 + 2 * s.cfgTxbits.toNat + 2 * s.cfgStop.toNat := hn
  rw [hseq]
  exact symSeq_getElem?_stop _ (by omega) (by omega)

/-- The next index of a sequence or of a window fits its register (10_state.md R32, R37). -/
theorem index_succ_toNat {k : BitVec 6} (h : k.toNat ≤ 37) : (k + 1).toNat = k.toNat + 1 := by
  rw [BitVec.toNat_add]
  show (k.toNat + 1) % 64 = _
  omega

theorem coherent_symbolDone {s : State} (h : Attempting s) (hline : s.txLine = s.txSeq[s.txSym.toNat]?) :
    Coherent (symbolDone s) := by
  obtain ⟨-, hi, -⟩ := h.bounds
  have hnext := index_succ_toNat hi
  unfold symbolDone
  split
  · rename_i hlt
    obtain ⟨hcarries, hloaded, -, hr⟩ := h
    refine coherent_txWrite ⟨hcarries, hloaded, ?_, hr⟩ rfl ?_
    · exact hnext.symm ▸ hlt
    · show txPhase _ (s.txSym.toNat + 1) = txPhase _ (s.txSym + 1).toNat
      rw [hnext]
  · rename_i hlast
    exact coherent_txSettle (s := { s with txState := .settle, ctl := .txSettle }) h rfl rfl
      (hline.trans (last_symbol_high h hlast))

/-- A transmission that ends its attempt is on standby once the Dispatcher is idle. -/
theorem Attempting.standby {s t : State} (h : Attempting s) (hconfig : t.configuration = s.configuration)
    (htx : t.txState = .idle) (hregs : t.txNsym = s.txNsym ∧ t.txSym = s.txSym ∧ t.txSeq = s.txSeq)
    (hk : t.rxK = s.rxK) (hdsp : t.dspState = .idle) : Standby t := by
  have hb := h.bounds
  obtain ⟨⟨⟨hlegal, -⟩, -, ⟨-, hrxk⟩, -⟩, -⟩ := h
  obtain ⟨hn, hi, hseq⟩ := hregs
  exact ⟨configLegal_of_configuration hconfig hlegal, htx, by rwa [hn, hi, hseq], by rwa [hk], hdsp⟩

/-- In the TimerWait variant interrupts are not held during an attempt (43_dispatcher.md R296). -/
theorem Attempting.csInactive {s : State} (h : Attempting s) (hv : s.params.txVariant = .timerWait) :
    s.csActive = false := by
  obtain ⟨⟨-, -, -, -, hguard⟩, -⟩ := h
  rw [← Bool.not_eq_true, hguard, hv]
  exact nofun

theorem coherent_attemptFailed {s : State} (h : Attempting s) (hline : s.txLine = s.txSeq[s.txSym.toNat]?)
    (hv : s.params.txVariant = .timerWait) : Coherent (attemptFailed s) := by
  have hcs := h.csInactive hv
  unfold attemptFailed
  split
  · rw [raise_outside _ { s with txState := .idle } hcs]
    exact coherent_respond (s := { s with txState := .idle, rxState := .idle, dspState := .idle })
      (h.standby rfl rfl ⟨rfl, rfl, rfl⟩ rfl rfl) rfl hcs (responseLegal_err (by decide))
  · obtain ⟨hcarries, hloaded, hi, -⟩ := h
    refine coherent_txPause ⟨hcarries, hloaded, hi, ?_⟩ rfl rfl hline hv
    intro hv'
    cases hv.symm.trans hv'

theorem coherent_txHoldEvent {s : State} (h : Coherent s) (hc : s.ctl = .txHold) : Coherent (txHoldEvent s) :=
  coherent_symbolDone (s := delayUs s.txHb.toNat s) (h.attempting (by rw [hc]; rfl))
    (h.tx.held (.inl (by rw [hc]; rfl)))

theorem coherent_txStartEvent {s : State} (h : Coherent s) (hc : s.ctl = .txStart) :
    Coherent (txStartEvent s) :=
  coherent_holding (s := txStartEvent s) (h.attempting (by rw [hc]; rfl)) rfl (h.tx.phase (by rw [hc]; rfl))
    (h.tx.held (.inl (by rw [hc]; rfl))) (fun h' => nomatch h') (fun _ => h.tx.timerWait (.inl hc))

theorem coherent_txPollEvent {s : State} (h : Coherent s) (hc : s.ctl = .txPoll) : Coherent (txPollEvent s) := by
  have ha : Attempting (readNow s).2 := h.attempting (by rw [hc]; rfl)
  have hline := h.tx.held (.inl (by rw [hc]; rfl))
  have hv := h.tx.timerWait (.inr hc)
  unfold txPollEvent
  split
  · exact coherent_attemptFailed ha hline hv
  · exact coherent_symbolDone ha hline
  · have hctl : (readNow s).2.ctl = .txPoll := hc
    exact coherent_holding ha (by rw [hctl]; rfl) (h.tx.phase (by rw [hc]; rfl)) hline
      (by rw [hctl]; exact nofun) (fun _ => hv)

theorem coherent_txPauseEvent {s : State} (h : Coherent s) (hc : s.ctl = .txPause) :
    Coherent (txPauseEvent s) := by
  obtain ⟨hcarries, -, -, hr⟩ := h.attempting (by rw [hc]; rfl)
  exact coherent_startAttempt (s := delayUs _ s) hcarries hr

/-- A request that returns OK after its last transmission. -/
theorem coherent_finish_ok {s : State} (h : Standby s) (ha : Active s) (hrx : s.rxState = .idle)
    (hguard : s.csActive = true ↔ s.params.txVariant = .busyDelay) : Coherent (finish (okResponse 0) s) := by
  cases hcs : s.csActive with
  | false =>
    rw [finish_outside _ _ hcs]
    exact coherent_respond h hrx hcs (responseLegal_ok 0)
  | true =>
    rw [finish_inside _ _ hcs]
    exact coherent_csExit (s := { s with ctl := .csExit (okResponse 0) none }) h ha hrx hcs (hguard.1 hcs)
      (responseLegal_ok 0) (by decide) (by decide) rfl

theorem coherent_transmitReturned {s t : State} (h : Coherent s) (hc : s.ctl = .txSettle)
    (he : transmitReturned (settle s) = .next t) : Coherent t := by
  have ha := h.attempting (by rw [hc]; rfl)
  obtain ⟨⟨⟨hconfig, hv⟩, hactive, ⟨hrx, hk⟩, -, hguard⟩, -⟩ := id ha
  obtain ⟨hd, rfl⟩ | ⟨-, hm, rfl⟩ | ⟨-, -, rfl⟩ | ⟨-, rfl⟩ := transmitReturned_next he
  · exact coherent_finish_ok (s := settle s) (ha.standby rfl rfl ⟨rfl, rfl, rfl⟩ rfl hd) hactive hrx hguard
  · obtain ⟨hbusy, hresp⟩ := hactive
    exact
      { config := hconfig
        busy := by simpa [settle] using hbusy
        unanswered := fun _ => hresp
        legalAnswer := by simp [settle, hresp]
        configured := fun _ => hv
        tx := txCoherent_of_quiet rfl rfl ha.bounds
        rx := rxCoherent_of_quiet rfl rfl hrx hk
        dsp :=
          { notGap := nofun
            gap := fun _ => rfl
            quiet := fun _ h => absurd rfl h
            frame := nofun
            second := fun _ => hm
            guard := by simpa [settle, insideCs] using hguard
            enter := nofun
            exit := nofun } }
  · exact coherent_finish_ok (s := { settle s with dspState := .idle })
      (ha.standby rfl rfl ⟨rfl, rfl, rfl⟩ rfl rfl) hactive hrx hguard
  · exact coherent_finish_ok (s := { settle s with dspState := .idle })
      (ha.standby rfl rfl ⟨rfl, rfl, rfl⟩ rfl rfl) hactive hrx hguard

theorem coherent_repeatGapEvent {s : State} (h : Coherent s) (hc : s.ctl = .repeatGap) :
    Coherent (repeatGapEvent s) := by
  have hactive := h.active (by rw [hc]; exact nofun)
  have hv := h.configured (by rw [hc]; rfl)
  have hguard : s.csActive = true ↔ s.params.txVariant = .busyDelay := by simp [h.dsp.guard, hc, insideCs]
  exact coherent_transmit (s := { delayUs repeatGapUs s with dspState := .tx2 })
    ⟨⟨h.config, hv⟩, hactive, ⟨h.rx.quiet (by rw [hc]; rfl) (by rw [hc]; rfl), h.rx.bounds⟩,
      ⟨nofun, fun _ => rfl, fun _ => h.dsp.second (.inl (h.dsp.gap hc))⟩, hguard⟩

/-! The critical section. -/

/-- A body that may start: the block is on standby and the guard is as the variant says. -/
theorem coherent_job {job : Job} {s : State} (h : Standby s) (ha : Active s) (hrx : s.rxState = .idle)
    (hguard : s.csActive = true ↔ s.params.txVariant = .busyDelay) (prior : Nat) :
    Coherent (if s.csActive then undoTokenAtExit prior (runJob job s) else runJob job s) := by
  obtain ⟨hconfig, htx, hbounds, hk, hdsp⟩ := id h
  have hsending {value : BitVec 16} {u : State} (hu : Coherent (transmit value u)) :
      Coherent (if s.csActive then undoTokenAtExit prior (transmit value u) else transmit value u) := by
    rw [undoTokenAtExit_active prior (transmit value u) (by intro r p h; cases h), ite_self]
    exact hu
  obtain ⟨hv, value, hj⟩ | ⟨hv, tmode, f, hj⟩ | ⟨st, hst, hj⟩ := runJob_cases job s <;> rw [hj]
  · exact hsending (coherent_transmit
      ⟨⟨hconfig, hv⟩, ha, ⟨hrx, hk⟩, ⟨by simp [hdsp], by simp [hdsp], by simp [hdsp]⟩, hguard⟩)
  · exact hsending (coherent_transmit (s := { s with dspFrame := f, dspTmode := tmode, dspState := .tx1 })
      ⟨⟨hconfig, hv⟩, ha, ⟨hrx, hk⟩, ⟨nofun, fun _ => rfl, nofun⟩, hguard⟩)
  · obtain ⟨hok, hfail, htime⟩ := ofCodec_ne hst
    cases hcs : s.csActive with
    | false =>
      rw [raise_outside _ _ hcs]
      exact coherent_respond (s := { s with rxState := .idle, dspState := .idle })
        ⟨hconfig, htx, hbounds, hk, rfl⟩ rfl hcs (responseLegal_err htime)
    | true =>
      rw [raise_inside _ _ hcs]
      exact coherent_csExit (s := { s with
          rxState := .idle, dspState := .idle, ctl := .csExit (errResponse st) (some prior) })
        ⟨hconfig, htx, hbounds, hk, rfl⟩ ha rfl hcs (hguard.1 hcs) (responseLegal_err htime) ⟨hfail, htime⟩
        (by simpa [errResponse] using hok) rfl

theorem coherent_csEnterEvent {job : Job} {s : State} (h : Coherent s) (hc : s.ctl = .csEnter job) :
    Coherent (csEnterEvent job s) := by
  have hv := h.dsp.enter job hc
  exact coherent_job (s := intDisableSave s) (h.standby (by rw [hc]; rfl) (by rw [hc]; exact nofun))
    (h.active (by rw [hc]; exact nofun)) (h.rx.quiet (by rw [hc]; rfl) (by rw [hc]; rfl))
    (by simp [hv]) s.csToken

theorem coherent_exitCs {r : Response} {prior : Option Nat} {s : State} (h : Coherent s)
    (hc : s.ctl = .csExit r prior) : Coherent (exitCs r prior s) := by
  obtain ⟨-, hr, -⟩ := h.dsp.exit r prior hc
  exact coherent_respond (s := { intRestore s with csToken := prior.getD s.csToken })
    (h.standby (by rw [hc]; rfl) (by rw [hc]; exact nofun)) (h.rx.quiet (by rw [hc]; rfl) (by rw [hc]; rfl)) rfl hr

/-! SETUP. -/

/-- A place of SETUP or RECEIVE with the receiver idle. -/
theorem coherent_rxIdle {s : State} (h : Standby s) (ha : Active s) (hv : s.cfgValid = true)
    (hcs : s.csActive = false) (hrx : s.rxState = .idle) (hctl : settingUp s.ctl = true ∨ s.ctl = .rxCall) :
    Coherent s := by
  obtain ⟨-, -, -, hk, -⟩ := id h
  have hplace : insideCs s.ctl = false ∧ s.ctl ≠ .idle ∧ (∀ job, s.ctl ≠ .csEnter job) ∧
      waitingForEdge s.ctl = false ∧ sampling s.ctl = false := by
    cases hc : s.ctl <;>
      simp_all [settingUp, insideCs, transmitting, sendingSymbol, waitingForEdge, sampling]
  obtain ⟨hout, hne, henter, hw, hs⟩ := hplace
  exact coherent_outside h ha hcs hout hne (fun job hj => absurd hj (henter job)) (fun _ => hv)
    (rxCoherent_of_quiet hw hs hrx hk)

theorem coherent_setupTxModeEvent {s : State} (h : Coherent s) (hc : s.ctl = .setupTxMode) :
    Coherent (setupTxModeEvent s) :=
  coherent_rxIdle (s := setupTxModeEvent s) (h.standby (by rw [hc]; rfl) (by rw [hc]; exact nofun))
    (h.active (by rw [hc]; exact nofun)) (h.configured (by rw [hc]; rfl)) (h.csInactive (by rw [hc]; rfl))
    (h.rx.quiet (by rw [hc]; rfl) (by rw [hc]; rfl)) (.inl rfl)

theorem coherent_setupIdleLevelEvent {s : State} (h : Coherent s) (hc : s.ctl = .setupIdleLevel) :
    Coherent (setupIdleLevelEvent s) :=
  coherent_rxIdle (s := setupIdleLevelEvent s) (h.standby (by rw [hc]; rfl) (by rw [hc]; exact nofun))
    (h.active (by rw [hc]; exact nofun)) (h.configured (by rw [hc]; rfl)) (h.csInactive (by rw [hc]; rfl))
    (h.rx.quiet (by rw [hc]; rfl) (by rw [hc]; rfl)) (.inl rfl)

theorem coherent_setupRxModeEvent {s : State} (h : Coherent s) (hc : s.ctl = .setupRxMode) :
    Coherent (setupRxModeEvent s) :=
  coherent_respond (s := emit _ s) (h.standby (by rw [hc]; rfl) (by rw [hc]; exact nofun))
    (h.rx.quiet (by rw [hc]; rfl) (by rw [hc]; rfl)) (h.csInactive (by rw [hc]; rfl)) (responseLegal_ok 0)

/-! The receiver. -/

/-- What holds wherever RECEIVE is active. -/
def Receiving (s : State) : Prop :=
  Standby s ∧ Active s ∧ s.cfgValid = true ∧ s.csActive = false

theorem Coherent.receiving {s : State} (h : Coherent s)
    (hc : s.ctl = .rxCall ∨ waitingForEdge s.ctl = true ∨ sampling s.ctl = true) : Receiving s := by
  have hplace : insideCs s.ctl = false ∧ transmitting s.ctl = false ∧ s.ctl ≠ .repeatGap ∧ s.ctl ≠ .idle ∧
      needsConfig s.ctl = true := by
    cases hc' : s.ctl <;>
      simp_all [insideCs, transmitting, sendingSymbol, waitingForEdge, sampling, needsConfig]
  obtain ⟨hout, ht, hg, hne, hcfg⟩ := hplace
  exact ⟨h.standby ht hg, h.active hne, h.configured hcfg, h.csInactive hout⟩

theorem coherent_waiting {s : State} (h : Receiving s) (hw : waitingForEdge s.ctl = true)
    (hr : s.rxState = .edgeWait) : Coherent s := by
  obtain ⟨hstandby, hactive, hv, hcs⟩ := h
  obtain ⟨-, -, -, hk, -⟩ := id hstandby
  have ne {c : Ctl} (hc : waitingForEdge c = false) : s.ctl ≠ c := by
    rintro rfl; simp [hc] at hw
  exact coherent_outside hstandby hactive hcs (insideCs_of_receiving (.inl hw)) (ne rfl)
    (fun job hj => absurd hj (ne rfl)) (fun _ => hv) (rxCoherent_of_waiting hw hr hk)

theorem coherent_sampling {s : State} (h : Receiving s) (hs : sampling s.ctl = true)
    (hk : s.rxK.toNat < windowCount s.cfgRxbits.toNat s.cfgStop.toNat)
    (hr : s.rxState = rxPhase s.cfgRxbits.toNat s.rxK.toNat)
    (hu : s.rxShift.toNat < 2 ^ min s.rxK.toNat (2 * s.cfgRxbits.toNat)) : Coherent s := by
  obtain ⟨hstandby, hactive, hv, hcs⟩ := h
  obtain ⟨-, -, -, hb, -⟩ := id hstandby
  have ne {c : Ctl} (hc : sampling c = false) : s.ctl ≠ c := by
    rintro rfl; simp [hc] at hs
  exact coherent_outside hstandby hactive hcs (insideCs_of_receiving (.inr hs)) (ne rfl)
    (fun job hj => absurd hj (ne rfl)) (fun _ => hv) (rxCoherent_of_sampling hs hk hr hu hb)

theorem coherent_edgeWait {s : State} (h : Receiving s) : Coherent (edgeWait s) :=
  coherent_waiting (s := edgeWait s) h rfl rfl

theorem coherent_receiveTimeout {s : State} (h : Receiving s) : Coherent (receiveTimeout s) := by
  obtain ⟨hstandby, -, -, hcs⟩ := h
  exact coherent_respond (s := { s with rxState := .idle }) hstandby rfl hcs responseLegal_timeout

theorem coherent_enterWindow {s : State} (k : BitVec 6) (h : Receiving s)
    (hk : k.toNat < windowCount s.cfgRxbits.toNat s.cfgStop.toNat)
    (hu : s.rxShift.toNat < 2 ^ min k.toNat (2 * s.cfgRxbits.toNat)) : Coherent (enterWindow k s) := by
  obtain ⟨⟨hconfig, htx, hbounds, -, hdsp⟩, hactive, hv, hcs⟩ := h
  have hle := windowCount_le hconfig hv
  have hk35 : k.toNat ≤ 35 := by omega
  exact coherent_sampling (s := enterWindow k s)
    ⟨⟨hconfig, htx, hbounds, hk35, hdsp⟩, hactive, hv, hcs⟩ rfl hk rfl hu

theorem coherent_nextWindow {s : State} (h : Receiving s)
    (hu : s.rxShift.toNat < 2 ^ min (s.rxK.toNat + 1) (2 * s.cfgRxbits.toNat)) : Coherent (nextWindow s) := by
  obtain ⟨hstandby, -, -, hcs⟩ := id h
  obtain ⟨-, -, -, hk, -⟩ := id hstandby
  have hnext := index_succ_toNat (show s.rxK.toNat ≤ 37 by omega)
  unfold nextWindow
  split
  · rename_i hlt
    exact coherent_enterWindow (s.rxK + 1) h (hnext ▸ hlt) (hnext ▸ hu)
  · exact coherent_respond (s := { s with rxState := .idle }) hstandby rfl hcs (responseLegal_ok _)

/-- One more symbol in the shift register is one more bit (42_line_receiver.md R267). -/
theorem shiftSymbol_toNat {shift : Word32} (l : Level) (h : shift.toNat < 2 ^ 31) :
    (shiftSymbol shift l).toNat = 2 * shift.toNat + (if l = .high then 1 else 0) := by
  have heven : (shift <<< 1).toNat = 2 * shift.toNat := by
    rw [BitVec.toNat_shiftLeft, Nat.shiftLeft_eq]; omega
  unfold shiftSymbol
  cases l with
  | low => simpa using heven
  | high =>
    have hor := Nat.shiftLeft_add_eq_or_of_lt (b := 1) (i := 1) (by decide) shift.toNat
    rw [Nat.shiftLeft_eq] at hor
    rw [if_pos rfl, BitVec.toNat_or, heven, if_pos rfl]
    show 2 * shift.toNat ||| 1 = _
    rw [mul_comm, ← hor]

theorem coherent_windowDone {s : State} (a b : Level) (h : Receiving s)
    (hu : s.rxShift.toNat < 2 ^ min s.rxK.toNat (2 * s.cfgRxbits.toNat)) : Coherent (windowDone a b s) := by
  obtain ⟨⟨hconfig, -⟩, -, hv, -⟩ := id h
  obtain ⟨-, -, hrx, -⟩ := (configLegal_iff s).1 hconfig hv
  unfold windowDone
  split
  · exact coherent_edgeWait h
  · split
    · rename_i hdata
      refine coherent_nextWindow (s := { s with rxShift := shiftSymbol s.rxShift a }) h ?_
      show (shiftSymbol s.rxShift a).toNat < 2 ^ min (s.rxK.toNat + 1) (2 * s.cfgRxbits.toNat)
      have hpow : 2 ^ s.rxK.toNat ≤ 2 ^ 31 := Nat.pow_le_pow_right (by decide) (by omega)
      rw [Nat.min_eq_left (by omega)] at hu
      rw [Nat.min_eq_left (by omega), Nat.pow_succ, shiftSymbol_toNat a (by omega)]
      split <;> omega
    · rename_i hstop
      rw [Nat.min_eq_right (by omega)] at hu
      split
      · refine coherent_nextWindow h ?_
        rwa [Nat.min_eq_right (by omega)]
      · exact coherent_edgeWait h

theorem coherent_rxCallEvent {s : State} (h : Coherent s) (hc : s.ctl = .rxCall) : Coherent (rxCallEvent s) :=
  coherent_edgeWait (s := { (readNow s).2 with rxTcall := (readNow s).1 }) (h.receiving (.inl hc))

theorem coherent_rxFirstEvent {s : State} (h : Coherent s) (hc : s.ctl = .rxFirst) :
    Coherent (rxFirstEvent s) :=
  coherent_waiting (s := rxFirstEvent s) (h.receiving (.inr (.inl (by rw [hc]; rfl)))) rfl
    (h.rx.waiting (by rw [hc]; rfl))

theorem coherent_rxPollEvent {s : State} (h : Coherent s) (hc : s.ctl = .rxPoll) : Coherent (rxPollEvent s) := by
  have hr : Receiving (readNow s).2 := h.receiving (.inr (.inl (by rw [hc]; rfl)))
  unfold rxPollEvent
  split
  · exact coherent_receiveTimeout hr
  · exact coherent_waiting (s := { (readNow s).2 with ctl := .rxEdge (readNow s).1 }) hr rfl
      (h.rx.waiting (by rw [hc]; rfl))

theorem coherent_rxEdgeEvent {t : Time31} {s : State} (h : Coherent s) (hc : s.ctl = .rxEdge t) :
    Coherent (rxEdgeEvent t s) := by
  have hr : Receiving (readRxPin s).2 := h.receiving (.inr (.inl (by rw [hc]; rfl)))
  obtain ⟨⟨hconfig, -⟩, -, hv, -⟩ := id hr
  obtain ⟨-, -, hbits, -⟩ := (configLegal_iff _).1 hconfig hv
  unfold rxEdgeEvent
  split
  · refine coherent_enterWindow 0 (s := { (readRxPin s).2 with rxTedge := t, rxShift := 0 }) hr ?_ ?_
    · show 0 < windowCount s.cfgRxbits.toNat s.cfgStop.toNat
      rw [readRxPin_cfgRxbits] at hbits
      unfold windowCount
      omega
    · exact Nat.pow_pos (by decide)
  · exact coherent_waiting (s := { (readRxPin s).2 with rxPrev := (readRxPin s).1, ctl := .rxPoll }) hr rfl
      (h.rx.waiting (by rw [hc]; rfl))

/-- Another place of the same window is coherent too. -/
theorem coherent_sameWindow {s t : State} (h : Coherent s) (hs : sampling s.ctl = true) (hr : Receiving t)
    (ht : sampling t.ctl = true)
    (hregs : t.rxK = s.rxK ∧ t.rxShift = s.rxShift ∧ t.rxState = s.rxState)
    (hcfg : t.cfgRxbits = s.cfgRxbits ∧ t.cfgStop = s.cfgStop) : Coherent t := by
  obtain ⟨hk, hp⟩ := h.rx.window hs
  obtain ⟨hk', hu', hr'⟩ := hregs
  obtain ⟨hb', hs'⟩ := hcfg
  exact coherent_sampling hr ht (by rwa [hk', hb', hs']) (by rwa [hr', hb', hk']) (by
    rw [hu', hk', hb']; exact h.rx.used hs)

theorem coherent_rxWaitEvent {q : Nat} {wrapped : State → State} {ready : Ctl} {s : State} (h : Coherent s)
    (hs : sampling s.ctl = true) (hready : sampling ready = true)
    (hw : Coherent (wrapped (readNow s).2)) : Coherent (rxWaitEvent q wrapped ready s) := by
  have hr : Receiving (readNow s).2 := h.receiving (.inr (.inr hs))
  obtain he | he | he := rxWaitEvent_cases q wrapped ready s <;> rw [he]
  · exact hw
  · exact coherent_sameWindow h hs (t := { (readNow s).2 with ctl := ready }) hr hready ⟨rfl, rfl, rfl⟩ ⟨rfl, rfl⟩
  · exact coherent_sameWindow h hs hr hs ⟨rfl, rfl, rfl⟩ ⟨rfl, rfl⟩

theorem coherent_rxWaitAEvent {s : State} (h : Coherent s) (hc : s.ctl = .rxWaitA) :
    Coherent (rxWaitAEvent s) := by
  have hs : sampling s.ctl = true := by rw [hc]; rfl
  have hr : Receiving (readNow s).2 := h.receiving (.inr (.inr hs))
  exact coherent_rxWaitEvent h hs rfl
    (coherent_sameWindow h hs (t := { (readNow s).2 with ctl := .rxWaitB none }) hr rfl ⟨rfl, rfl, rfl⟩ ⟨rfl, rfl⟩)

theorem coherent_rxWaitBEvent {a : Option Level} {s : State} (h : Coherent s) (hc : s.ctl = .rxWaitB a) :
    Coherent (rxWaitBEvent a s) := by
  have hs : sampling s.ctl = true := by rw [hc]; rfl
  have hr : Receiving (readNow s).2 := h.receiving (.inr (.inr hs))
  exact coherent_rxWaitEvent h hs rfl (coherent_receiveTimeout hr)

theorem coherent_rxReadAEvent {s : State} (h : Coherent s) (hc : s.ctl = .rxReadA) :
    Coherent (rxReadAEvent s) := by
  have hs : sampling s.ctl = true := by rw [hc]; rfl
  have hr : Receiving (readRxPin s).2 := h.receiving (.inr (.inr hs))
  exact coherent_sameWindow h hs (t := rxReadAEvent s) hr rfl ⟨rfl, rfl, rfl⟩ ⟨rfl, rfl⟩

theorem coherent_rxReadBEvent {a : Option Level} {s : State} (h : Coherent s) (hc : s.ctl = .rxReadB a) :
    Coherent (rxReadBEvent a s) := by
  have hs : sampling s.ctl = true := by rw [hc]; rfl
  have hr : Receiving (readRxPin s).2 := h.receiving (.inr (.inr hs))
  cases a with
  | none => exact coherent_receiveTimeout hr
  | some l => exact coherent_windowDone _ _ hr (h.rx.used hs)

/-! The engine and the step. -/

/-- The event due in a coherent state leads to a coherent state. -/
theorem event_keeps_coherent {s t : State} (h : Coherent s) (he : event s = .next t) : Coherent t := by
  obtain ⟨hc, he⟩ | ⟨hc, he⟩ | ⟨-, -, -, rfl⟩ := event_next he
  · exact coherent_txWriteEvent h hc he
  · exact coherent_transmitReturned h hc he
  · unfold eventState
    split <;> rename_i hc
    · exact coherent_setupTxModeEvent h hc
    · exact coherent_setupIdleLevelEvent h hc
    · exact coherent_setupRxModeEvent h hc
    · exact coherent_csEnterEvent h hc
    · exact coherent_exitCs h hc
    · exact coherent_txHoldEvent h hc
    · exact coherent_txStartEvent h hc
    · exact coherent_txPollEvent h hc
    · exact coherent_txPauseEvent h hc
    · exact coherent_repeatGapEvent h hc
    · exact coherent_rxCallEvent h hc
    · exact coherent_rxFirstEvent h hc
    · exact coherent_rxPollEvent h hc
    · exact coherent_rxEdgeEvent h hc
    · exact coherent_rxWaitAEvent h hc
    · exact coherent_rxReadAEvent h hc
    · exact coherent_rxWaitBEvent h hc
    · exact coherent_rxReadBEvent h hc
    · exact h
    · exact h
    · exact h

/-- What a coherent block without a request is: on standby, with the receiver idle and interrupts not held. -/
theorem Coherent.idle {s : State} (h : Coherent s) (hb : s.reqBusy = false) :
    s.ctl = .idle ∧ Standby s ∧ s.rxState = .idle ∧ s.csActive = false := by
  have hc : s.ctl = .idle := by
    by_contra hne
    simp [h.busy.2 hne] at hb
  exact ⟨hc, h.standby (by rw [hc]; rfl) (by rw [hc]; exact nofun),
    h.rx.quiet (by rw [hc]; rfl) (by rw [hc]; rfl), h.csInactive (by rw [hc]; rfl)⟩

/-- The body of every request leads from an idle coherent block to a coherent state. -/
theorem coherent_body {body : State → State} {s : State} (hbody : RequestBody body) (h : Coherent s)
    (hb : s.reqBusy = false) : Coherent (body (accept s)) := by
  obtain ⟨-, hstandby, hrx, hcs⟩ := h.idle hb
  obtain ⟨-, htx, hbounds, hk, hdsp⟩ := id hstandby
  have ha : Active (accept s) := ⟨rfl, rfl⟩
  cases hbody with
  | setup baud txbits rxbits stop txpin rxpin =>
    unfold setupBody
    split
    · rename_i hl
      refine coherent_rxIdle ⟨?_, htx, hbounds, hk, hdsp⟩ ⟨rfl, rfl⟩ rfl hcs hrx (.inl rfl)
      exact fun _ => hl
    · exact coherent_respond (s := accept s) hstandby hrx hcs (responseLegal_err (by decide))
  | receive =>
    unfold receiveBody
    split
    · rename_i hv
      exact coherent_rxIdle (s := { accept s with ctl := .rxCall }) hstandby ha hv hcs hrx (.inr rfl)
    · exact coherent_respond (s := accept s) hstandby hrx hcs (responseLegal_err (by decide))
  | codec r hr =>
    refine coherent_respond (s := accept s) hstandby hrx hcs ?_
    cases r with
    | ok v => exact responseLegal_ok v
    | error st =>
      obtain ⟨-, -, htime⟩ := ofCodec_ne (.inr (hr st rfl))
      exact responseLegal_err htime
  | guarded job =>
    cases hv : s.params.txVariant with
    | timerWait =>
      rw [withCs_timerWait job (accept s) hv]
      have hjob := coherent_job (job := job) (s := accept s) hstandby ha hrx (by simp [hcs, hv]) 0
      rwa [accept_csActive, hcs] at hjob
    | busyDelay =>
      rw [withCs_busyDelay job (accept s) hv]
      exact coherent_outside (s := { accept s with ctl := .csEnter job }) hstandby ha hcs rfl nofun
        (fun _ _ => hv) nofun (rxCoherent_of_quiet rfl rfl hrx hk)

/-- Taking what is presented changes nothing the coherence speaks of. -/
theorem fetch_keeps_coherent {s s' : State} {p : Presented} (h : Coherent s) (hf : fetch s = some (p, s')) :
    Coherent s' ∧ s'.reqBusy = s.reqBusy := by
  obtain ⟨hconfig, hbusy, hun, hlegal, hcfg, ⟨hseq, hidx, hphase, hheld, hsettle, hpause, hquiet, hbd, htw, hnr, hb⟩,
    ⟨hwin, hused, hwait, hrq, hk⟩, ⟨hng, hg, hdq, hfr, hsec, hgu, hen, hex⟩⟩ := h
  obtain ⟨-, rfl⟩ | ⟨-, -, rest, -, rfl⟩ := fetch_next hf <;>
    exact ⟨⟨hconfig, hbusy, hun, hlegal, hcfg,
      ⟨hseq, hidx, hphase, hheld, hsettle, hpause, hquiet, hbd, htw, hnr, hb⟩,
      ⟨hwin, hused, hwait, hrq, hk⟩, ⟨hng, hg, hdq, hfr, hsec, hgu, hen, hex⟩⟩, rfl⟩

theorem exec_keeps_coherent {i : Instr} {s t : State} (h : Coherent s) (hx : exec i s = .next t) : Coherent t := by
  cases hb : s.reqBusy with
  | true => simp [requestWhileBusyRefused i s hb] at hx
  | false =>
    obtain ⟨body, hbody, hi⟩ := exec_requestBody i s
    have hc := coherent_body hbody h hb
    obtain ⟨-, ⟨-, rfl⟩ | ⟨-, he⟩⟩ := request_next (hi ▸ hx)
    · exact hc
    · exact event_keeps_coherent hc he

/-- Settles O49: a step runs the body of a request, which is coherent before its first event, or makes the
event of an active one. -/
theorem stepKeepsCoherent : Obligations.StepKeepsCoherent := by
  unfold Obligations.StepKeepsCoherent
  intro s t h hstep
  obtain ⟨p, s', i, hf, -, hx⟩ | ⟨-, -, he⟩ | ⟨-, -, rfl⟩ := step_next hstep
  · obtain ⟨hs', -⟩ := fetch_keeps_coherent h hf
    exact exec_keeps_coherent hs' hx
  · exact event_keeps_coherent h he
  · exact h

end Sys2Proof.Safety
end

section
/-! SUPPORT. What only a primitive changes (00_scope.md R10): the trace, the tx line, the interrupt state, the
environment and the requests to come. The silent work between two events leaves it as it is. -/

namespace Sys2Proof.Machine

/-- What the silent work between two events never changes. -/
structure External where
  trace : List Event
  txLine : Option Level
  csActive : Bool
  csToken : Nat
  env : Env
  port : Option Presented
  program : List Presented

/-- The external part of a state. -/
def State.external (s : State) : External where
  trace := s.trace
  txLine := s.txLine
  csActive := s.csActive
  csToken := s.csToken
  env := s.env
  port := s.port
  program := s.program

/-- The state after the primitive due at `s.ctl`, before the silent work that follows it. -/
def primitive (s : State) : State :=
  match s.ctl with
  | .idle => s
  | .setupTxMode => emit (.setPinMode s.cfgTxpin .output s.params.txPull) s
  | .setupIdleLevel => writeTx .high s
  | .setupRxMode => emit (.setPinMode s.cfgRxpin .input s.params.rxPull) s
  | .csEnter _ => intDisableSave s
  | .csExit _ prior => { intRestore s with csToken := prior.getD s.csToken }
  | .txWrite => writeTx (s.txSeq[s.txSym.toNat]?.getD .high) s
  | .txHold => delayUs s.txHb.toNat s
  | .txSettle => delayUs (settleHb * s.txHb.toNat) s
  | .txPause => delayUs (retryPauseHb * s.txHb.toNat) s
  | .repeatGap => delayUs repeatGapUs s
  | .txStart | .txPoll | .rxCall | .rxPoll | .rxWaitA | .rxWaitB _ => (readNow s).2
  | .rxFirst | .rxEdge _ | .rxReadA | .rxReadB _ => (readRxPin s).2

/-! The silent work. -/

theorem finish_external (r : Response) (s : State) : (finish r s).external = s.external := by
  unfold finish
  split <;> rfl

theorem raise_external (st : Status) (s : State) : (raise st s).external = s.external :=
  finish_external _ _

theorem undoTokenAtExit_external (prior : Nat) (s : State) : (undoTokenAtExit prior s).external = s.external := by
  unfold undoTokenAtExit
  split <;> rfl

theorem symbolDone_external (s : State) : (symbolDone s).external = s.external := by
  unfold symbolDone
  split <;> rfl

theorem attemptFailed_external (s : State) : (attemptFailed s).external = s.external := by
  unfold attemptFailed
  split
  · exact raise_external _ _
  · rfl

theorem transmitReturned_external {s t : State} (h : transmitReturned s = .next t) : t.external = s.external := by
  obtain ⟨-, rfl⟩ | ⟨-, -, rfl⟩ | ⟨-, -, rfl⟩ | ⟨-, rfl⟩ := transmitReturned_next h
  · exact finish_external _ _
  · rfl
  · exact finish_external _ _
  · exact finish_external _ _

theorem runJob_external (job : Job) (s : State) : (runJob job s).external = s.external := by
  obtain ⟨-, value, h⟩ | ⟨-, tmode, f, h⟩ | ⟨st, -, h⟩ := runJob_cases job s <;> rw [h]
  · rfl
  · rfl
  · exact raise_external _ _

theorem withCs_external (job : Job) (s : State) : (withCs job s).external = s.external := by
  unfold withCs
  split
  · rfl
  · exact runJob_external _ _

theorem setupBody_external (baud : Word32) (txbits rxbits stop txpin rxpin : Byte) (s : State) :
    (setupBody baud txbits rxbits stop txpin rxpin s).external = s.external := by
  unfold setupBody
  split <;> rfl

theorem receiveBody_external (s : State) : (receiveBody s).external = s.external := by
  unfold receiveBody
  split <;> rfl

theorem nextWindow_external (s : State) : (nextWindow s).external = s.external := by
  unfold nextWindow
  split <;> rfl

theorem windowDone_external (a b : Level) (s : State) : (windowDone a b s).external = s.external := by
  unfold windowDone
  split
  · rfl
  · split
    · exact nextWindow_external _
    · split
      · exact nextWindow_external _
      · rfl

/-! The event. -/

theorem eventState_external {s : State} (hw : s.ctl ≠ .txWrite) (hs : s.ctl ≠ .txSettle) :
    (eventState s).external = (primitive s).external := by
  unfold eventState primitive
  cases hc : s.ctl with
  | csEnter job => exact (undoTokenAtExit_external _ _).trans (runJob_external _ _)
  | txHold => exact symbolDone_external _
  | txPoll =>
    simp only [txPollEvent]
    split
    · exact attemptFailed_external _
    · exact symbolDone_external _
    · rfl
  | rxPoll =>
    simp only [rxPollEvent]
    split <;> rfl
  | rxEdge t =>
    simp only [rxEdgeEvent]
    split <;> rfl
  | rxWaitA =>
    obtain h | h | h := rxWaitEvent_cases 1 (fun u => { u with ctl := .rxWaitB none }) .rxReadA s <;>
      simp only [rxWaitAEvent, h] <;> rfl
  | rxWaitB a =>
    obtain h | h | h := rxWaitEvent_cases 3 receiveTimeout (.rxReadB a) s <;> simp only [rxWaitBEvent, h] <;> rfl
  | rxReadB a =>
    cases a with
    | none => rfl
    | some l => exact windowDone_external _ _ _
  | txWrite => exact absurd hc hw
  | txSettle => exact absurd hc hs
  | _ => rfl

/-- An event changes the external part exactly as its primitive does. -/
theorem event_external {s t : State} (h : event s = .next t) : t.external = (primitive s).external := by
  obtain ⟨hc, h⟩ | ⟨hc, h⟩ | ⟨-, hw, hs, rfl⟩ := event_next h
  · obtain ⟨l, hl, rfl⟩ := txWriteEvent_next h
    simp only [primitive, hc, hl]
    rfl
  · rw [transmitReturned_external h]
    simp only [primitive, hc]
    rfl
  · exact eventState_external hw hs

/-- A primitive is one event (00_scope.md R10). -/
theorem primitive_trace {s : State} (h : s.ctl ≠ .idle) : ∃ e, (primitive s).trace = e :: s.trace := by
  unfold primitive
  cases hc : s.ctl with
  | idle => exact absurd hc h
  | _ => exact ⟨_, rfl⟩

theorem event_trace {s t : State} (h : event s = .next t) : t.trace = (primitive s).trace :=
  congrArg External.trace (event_external h)

theorem ctl_ne_idle_of_event {s t : State} (h : event s = .next t) : s.ctl ≠ .idle := by
  intro hc
  simp [event, hc] at h

theorem event_one_event {s t : State} (h : event s = .next t) : ∃ e, t.trace = e :: s.trace := by
  rw [event_trace h]
  exact primitive_trace (ctl_ne_idle_of_event h)

/-! The bodies of requests and the step. -/

/-- The body of a request is silent. -/
theorem body_external {body : State → State} (h : RequestBody body) (s : State) :
    (body s).external = s.external := by
  cases h with
  | setup => exact setupBody_external _ _ _ _ _ _ _
  | receive => exact receiveBody_external _
  | codec => rfl
  | guarded => exact withCs_external _ _

theorem exec_trace {i : Instr} {s t : State} (h : exec i s = .next t) :
    t.trace = s.trace ∨ ∃ e, t.trace = e :: s.trace := by
  obtain ⟨body, hbody, hi⟩ := exec_requestBody i s
  have hs : (body (accept s)).trace = s.trace := congrArg External.trace (body_external hbody (accept s))
  obtain ⟨-, ⟨-, rfl⟩ | ⟨-, h⟩⟩ := request_next (hi ▸ h)
  · exact .inl hs
  · obtain ⟨e, he⟩ := event_one_event h
    exact .inr ⟨e, by rw [he, hs]⟩

theorem fetch_eq_none_of_busy {s : State} (hp : s.port = none) (hb : s.reqBusy = true) : fetch s = none := by
  simp [fetch, hp, hb]

/-- With the port empty an active request makes its next event (00_scope.md R10). -/
theorem step_event {s : State} (hp : s.port = none) (hb : s.reqBusy = true) : step s = event s := by
  simp [step, fetch_eq_none_of_busy hp hb, hb]

end Sys2Proof.Machine
end

section
/-! PROOF. One event per step (00_scope.md R10). -/

namespace Sys2Proof.Safety

open Sys2Proof.Machine

/-- Settles O4: every step is a request, whose body makes no event, an event or a wait. -/
theorem oneEventPerStep : Obligations.OneEventPerStep := by
  unfold Obligations.OneEventPerStep
  refine ⟨fun s t h => ?_, fun s t hp hb h => event_one_event (step_event hp hb ▸ h)⟩
  obtain ⟨p, s', i, hf, -, hx⟩ | ⟨-, -, he⟩ | ⟨-, -, rfl⟩ := step_next h
  · have ht := exec_trace hx
    obtain ⟨-, rfl⟩ | ⟨-, -, rest, -, rfl⟩ := fetch_next hf <;> exact ht
  · exact .inr (event_one_event he)
  · exact .inl rfl

end Sys2Proof.Safety
end

section
/-! PROOF. What coherence gives: reset has it, no step of a coherent state faults, receiver and transmitter
exclude each other, and the half-bit period is the quotient (70_reset_and_hazards.md R370; 60_exceptions.md R339;
42_line_receiver.md R273; 41_line_encoder.md R220). -/

namespace Sys2Proof.Safety

open Sys2Proof.Machine

theorem coherent_resetWith (p : Params) : Coherent (State.resetWith p) :=
  coherent_idle ⟨configLegal_resetWith p, rfl, ⟨Nat.zero_le _, Nat.zero_le _, rfl⟩, Nat.zero_le _, rfl⟩
    rfl rfl rfl rfl nofun

/-- Settles O48: every register is idle or 0. -/
theorem coherentAtReset : Obligations.CoherentAtReset := by
  unfold Obligations.CoherentAtReset
  exact ⟨coherent_resetWith, coherent_resetWith builtParams⟩

/-- A symbol that is due stands in the sequence. -/
theorem symbol_due {s : State} (h : Coherent s) (hc : s.ctl = .txWrite) :
    ∃ l, s.txSeq[s.txSym.toNat]? = some l := by
  have ha := h.attempting (by rw [hc]; rfl)
  obtain ⟨-, -, hlen⟩ := ha.bounds
  obtain ⟨-, -, hi, -⟩ := ha
  exact ⟨_, List.getElem?_eq_getElem (hlen ▸ hi)⟩

theorem transmitReturned_total {s : State} (h : s.dspState ≠ .gap) : ∃ t, transmitReturned s = .next t := by
  unfold transmitReturned
  split
  · exact ⟨_, rfl⟩
  · split <;> exact ⟨_, rfl⟩
  · exact ⟨_, rfl⟩
  · exact absurd ‹_› h

/-- In a coherent state the event due is made. -/
theorem event_total {s : State} (h : Coherent s) (hne : s.ctl ≠ .idle) : ∃ t, event s = .next t := by
  unfold event
  cases hc : s.ctl with
  | idle => exact absurd hc hne
  | txWrite =>
    obtain ⟨l, hl⟩ := symbol_due h hc
    exact ⟨_, txWriteEvent_of_getElem? s hl⟩
  | txSettle => exact transmitReturned_total (s := settle s) (h.dsp.notGap (by rw [hc]; rfl))
  | _ => exact ⟨_, rfl⟩

/-- An idle coherent block accepts every instruction. -/
theorem exec_total {i : Instr} {s : State} (h : Coherent s) (hb : s.reqBusy = false) :
    ∃ t, exec i s = .next t := by
  obtain ⟨body, hbody, hx⟩ := exec_requestBody i s
  have hc := coherent_body hbody h hb
  rw [hx]
  cases hbusy : (body (accept s)).reqBusy with
  | false => exact ⟨_, request_answered _ _ hb hbusy⟩
  | true =>
    rw [request_active _ _ hb hbusy]
    exact event_total hc (hc.busy.1 hbusy)

/-- Settles O50: an instruction is refused or accepted, and the event of an active request is made. -/
theorem coherentNeverFaults : Obligations.CoherentNeverFaults := by
  unfold Obligations.CoherentNeverFaults
  intro s why h hstep
  unfold step at hstep
  split at hstep
  · rename_i p s' hf
    obtain ⟨hs', -⟩ := fetch_keeps_coherent h hf
    split at hstep
    · rename_i i hi
      cases hb : s'.reqBusy with
      | true => simp [requestWhileBusyRefused i s' hb] at hstep
      | false =>
        obtain ⟨t, ht⟩ := exec_total (i := i) hs' hb
        simp [ht] at hstep
    · cases hstep
  · split at hstep
    · rename_i hb
      obtain ⟨t, ht⟩ := event_total h (h.busy.1 hb)
      simp [ht] at hstep
    · cases hstep

/-- Settles O52: where the receiver runs no attempt is active. -/
theorem receiverAndTransmitterExclude : Obligations.ReceiverAndTransmitterExclude := by
  unfold Obligations.ReceiverAndTransmitterExclude
  intro s t h hstep
  have ht := stepKeepsCoherent s t h hstep
  by_cases hr : waitingForEdge t.ctl = true ∨ sampling t.ctl = true
  · obtain ⟨⟨-, htx, -, -, hdsp⟩, -⟩ := ht.receiving (.inr hr)
    exact .inr ⟨htx, hdsp⟩
  · obtain ⟨hw, hs⟩ := not_or.1 hr
    exact .inl (ht.rx.quiet (by simpa using hw) (by simpa using hs))

/-- The half-bit period of a legal configuration (41_line_encoder.md R220). -/
theorem halfBit_legal {s : State} (hconfig : ConfigLegal s) (hv : s.cfgValid = true) :
    (halfBit s.cfgBaud).toNat = 500000 / s.cfgBaud.toNat ∧ 1 ≤ (halfBit s.cfgBaud).toNat ∧
    (halfBit s.cfgBaud).toNat ≤ 500000 := by
  obtain ⟨⟨hpos, hle⟩, -⟩ := (configLegal_iff s).1 hconfig hv
  rw [halfBit_toNat _ hpos]
  exact ⟨rfl, (Nat.one_le_div_iff hpos).2 hle, Nat.div_le_self _ _⟩

theorem Attempting.txHb {s : State} (h : Attempting s) :
    s.txHb.toNat = 500000 / s.cfgBaud.toNat ∧ 1 ≤ s.txHb.toNat ∧ s.txHb.toNat ≤ 500000 := by
  obtain ⟨⟨⟨hconfig, hv⟩, -⟩, ⟨-, -, hhb⟩, -⟩ := h
  rw [hhb]
  exact halfBit_legal hconfig hv

/-- Settles O30: an active attempt holds the period of its legal configuration. -/
theorem halfBitPeriod : Obligations.HalfBitPeriod := by
  unfold Obligations.HalfBitPeriod
  exact fun s h ht => (h.attempting ht).txHb

end Sys2Proof.Safety
end

section
/-! PROOF. Which step writes the configuration (43_dispatcher.md R312, 10_state.md R29). -/

namespace Sys2Proof.Safety

open Sys2Proof.Machine

/-- Settles O20: a step keeps the configuration, or replaces it by the operands of the SETUP it takes. -/
theorem configurationWrittenOnlyBySetup : Obligations.ConfigurationWrittenOnlyBySetup := by
  unfold Obligations.ConfigurationWrittenOnlyBySetup
  intro s t h
  obtain hc | ⟨p, s', baud, txbits, rxbits, stop, txpin, rxpin, hf, hi, -, hc⟩ := step_configuration h <;>
    simp only [State.configuration, Configuration.mk.injEq] at hc
  · obtain ⟨hparams, hbaud, htxbits, hrxbits, hstop, htxpin, hrxpin, hvalid⟩ := hc
    exact ⟨hparams, hvalid.trans, .inl ⟨hbaud, htxbits, hrxbits, hstop, htxpin, hrxpin, hvalid⟩⟩
  · obtain ⟨hparams, rfl, rfl, rfl, rfl, rfl, rfl, hvalid⟩ := hc
    exact ⟨hparams, fun _ => hvalid, .inr ⟨p, s', hf, hi, hvalid⟩⟩

end Sys2Proof.Safety
end

section
/-! PROOF. The interrupt guard over a step (43_dispatcher.md R296, 60_exceptions.md R340). -/

namespace Sys2Proof.Safety

open Sys2Proof.Machine

/-- Inside the critical section every primitive but the restore keeps the guard. -/
theorem primitive_guard {s : State} (hi : insideCs s.ctl = true) (hx : ∀ r p, s.ctl ≠ .csExit r p) :
    (primitive s).csActive = s.csActive ∧ (primitive s).csToken = s.csToken := by
  unfold primitive
  cases hc : s.ctl <;> simp_all [insideCs, transmitting, sendingSymbol]

/-- An active guard is held inside a critical section, where nothing is taken from the port. -/
theorem guarded_step {s t : State} (h : Coherent s) (hcs : s.csActive = true) (hstep : step s = .next t) :
    insideCs s.ctl = true ∧ event s = .next t := by
  obtain ⟨-, hi⟩ := h.dsp.guard.1 hcs
  have hne : s.ctl ≠ .idle := by
    intro hc; simp [hc, insideCs, transmitting, sendingSymbol] at hi
  have hb := h.busy.2 hne
  refine ⟨hi, ?_⟩
  obtain ⟨p, s', i, hf, -, hx⟩ | ⟨-, -, he⟩ | ⟨-, hb', -⟩ := step_next hstep
  · obtain ⟨-, hs'⟩ := fetch_keeps_coherent h hf
    simp [requestWhileBusyRefused i s' (hs'.trans hb)] at hx
  · exact he
  · simp [hb'] at hb

/-- Settles O40: the primitives inside the guard keep it, until the restore gives the response. -/
theorem guardRestoredOnEveryExit : Obligations.GuardRestoredOnEveryExit := by
  unfold Obligations.GuardRestoredOnEveryExit
  intro s t h hcs hstep
  obtain ⟨hi, he⟩ := guarded_step h hcs hstep
  by_cases hx : ∃ r p, s.ctl = .csExit r p
  · obtain ⟨r, prior, hc⟩ := hx
    obtain ⟨-, -, -, -, hprior⟩ := h.dsp.exit r prior hc
    obtain rfl : exitCs r prior s = t := by simpa [event, hc] using he
    refine .inr ⟨rfl, rfl, rfl, r, rfl, fun hok => ?_⟩
    have hnone : prior = none := by simpa [hok] using hprior
    rw [hnone]
    rfl
  · simp only [not_exists] at hx
    obtain ⟨ha, htok⟩ := primitive_guard hi hx
    have hext := event_external he
    have hcs' : t.csActive = true := (congrArg External.csActive hext).trans (ha.trans hcs)
    have ht := event_keeps_coherent h he
    refine .inl ⟨hcs', ht.busy.2 ?_, (congrArg External.csToken hext).trans htok⟩
    obtain ⟨-, hi'⟩ := ht.dsp.guard.1 hcs'
    intro hc
    simp [hc, insideCs, transmitting, sendingSymbol] at hi'

end Sys2Proof.Safety
end

section
/-! SUPPORT. The first event of a request: where each kind of body leaves the block (30_encoding.md R100). -/

namespace Sys2Proof.Safety

open Sys2Proof.Machine

/-- Where the body of a request leaves the block: answered, or at one of the four first events. -/
def FirstPlace (s u : State) : Prop :=
  (u.reqBusy = false ∧ ∀ r, u.response = some r → r.status ≠ .transmissionFailed) ∨
  u.ctl = .setupTxMode ∨ (∃ job, u.ctl = .csEnter job) ∨ (u.ctl = .txWrite ∧ u.cfgTxpin = s.cfgTxpin) ∨
  u.ctl = .rxCall

theorem firstPlace_respond {s u : State} {r : Response} (h : r.status ≠ .transmissionFailed) :
    FirstPlace s (respond r u) :=
  .inl ⟨rfl, by rintro r' ⟨⟩; exact h⟩

theorem body_firstPlace {body : State → State} (h : RequestBody body) {s : State} (hcs : s.csActive = false) :
    FirstPlace s (body s) := by
  cases h with
  | setup =>
    unfold setupBody
    split
    · exact .inr (.inl rfl)
    · exact firstPlace_respond (by decide)
  | receive =>
    unfold receiveBody
    split
    · exact .inr (.inr (.inr (.inr rfl)))
    · exact firstPlace_respond (by decide)
  | codec r hr =>
    refine firstPlace_respond ?_
    cases r with
    | ok v => exact nofun
    | error st =>
      obtain ⟨-, hfail, -⟩ := ofCodec_ne (.inr (hr st rfl))
      exact hfail
  | guarded job =>
    unfold withCs
    split
    · exact .inr (.inr (.inl ⟨job, rfl⟩))
    · obtain ⟨-, value, hj⟩ | ⟨-, tmode, f, hj⟩ | ⟨st, hst, hj⟩ := runJob_cases job s <;> rw [hj]
      · exact .inr (.inr (.inr (.inl ⟨rfl, rfl⟩)))
      · exact .inr (.inr (.inr (.inl ⟨rfl, rfl⟩)))
      · rw [raise_outside st s hcs]
        obtain ⟨-, hfail, -⟩ := ofCodec_ne hst
        exact firstPlace_respond hfail

theorem body_params {body : State → State} (h : RequestBody body) (s : State) : (body s).params = s.params := by
  cases h with
  | setup =>
    unfold setupBody
    split <;> rfl
  | receive => exact congrArg Configuration.params (receiveBody_configuration s)
  | codec => rfl
  | guarded => exact congrArg Configuration.params (withCs_configuration _ s)

end Sys2Proof.Safety
end

section
/-! PROOF. Where the response TransmissionFailed comes from (41_line_encoder.md R231). -/

namespace Sys2Proof.Safety

open Sys2Proof.Machine

/-- The response is as it was, or it is not TransmissionFailed. -/
def NoFailure (s t : State) : Prop :=
  t.response = s.response ∨ ∃ r, t.response = some r ∧ r.status ≠ .transmissionFailed

theorem noFailure_symbolDone (s : State) : NoFailure s (symbolDone s) := by
  unfold symbolDone
  split <;> exact .inl rfl

theorem noFailure_finish_ok (s : State) : NoFailure s (finish (okResponse 0) s) := by
  unfold finish
  split
  · exact .inl rfl
  · exact .inr ⟨_, rfl, by decide⟩

theorem noFailure_transmitReturned {s t : State} (h : transmitReturned s = .next t) : NoFailure s t := by
  obtain ⟨-, rfl⟩ | ⟨-, -, rfl⟩ | ⟨-, -, rfl⟩ | ⟨-, rfl⟩ := transmitReturned_next h
  · exact noFailure_finish_ok s
  · exact .inl rfl
  · exact noFailure_finish_ok { s with dspState := .idle }
  · exact noFailure_finish_ok { s with dspState := .idle }

/-- A body inside the guard gives no response yet. -/
theorem noFailure_csEnterEvent (job : Job) (s : State) : NoFailure s (csEnterEvent job s) := by
  refine .inl ?_
  have hundo (u : State) : (undoTokenAtExit s.csToken u).response = u.response := by
    unfold undoTokenAtExit
    split <;> rfl
  rw [csEnterEvent, hundo]
  obtain ⟨-, value, hj⟩ | ⟨-, tmode, f, hj⟩ | ⟨st, -, hj⟩ := runJob_cases job (intDisableSave s) <;> rw [hj]
  · rfl
  · rfl
  · rw [raise_inside st (intDisableSave s) rfl]
    rfl

theorem noFailure_receiveTimeout (s : State) : NoFailure s (receiveTimeout s) :=
  .inr ⟨_, rfl, by decide⟩

theorem noFailure_nextWindow (s : State) : NoFailure s (nextWindow s) := by
  unfold nextWindow
  split
  · exact .inl rfl
  · exact .inr ⟨_, rfl, by simp [okResponse]⟩

theorem noFailure_windowDone (a b : Level) (s : State) : NoFailure s (windowDone a b s) := by
  unfold windowDone
  split
  · exact .inl rfl
  · split
    · exact noFailure_nextWindow { s with rxShift := shiftSymbol s.rxShift a }
    · split
      · exact noFailure_nextWindow s
      · exact .inl rfl

theorem noFailure_rxWaitEvent {q : Nat} {wrapped : State → State} {ready : Ctl}
    (hw : ∀ u, NoFailure u (wrapped u)) (s : State) : NoFailure s (rxWaitEvent q wrapped ready s) := by
  obtain h | h | h := rxWaitEvent_cases q wrapped ready s <;> rw [h]
  · exact hw (readNow s).2
  · exact .inl rfl
  · exact .inl rfl

/-- Every event but a poll of the symbol wait gives no TransmissionFailed, nor does a coherent exit. -/
theorem noFailure_event {s t : State} (h : Coherent s) (he : event s = .next t) (hc : s.ctl ≠ .txPoll) :
    NoFailure s t := by
  obtain ⟨-, he⟩ | ⟨-, he⟩ | ⟨-, -, -, rfl⟩ := event_next he
  · obtain ⟨l, -, rfl⟩ := txWriteEvent_next he
    exact .inl rfl
  · exact noFailure_transmitReturned (s := settle s) he
  · unfold eventState
    cases hctl : s.ctl with
    | txPoll => exact absurd hctl hc
    | setupRxMode => exact .inr ⟨_, rfl, by decide⟩
    | csEnter job => exact noFailure_csEnterEvent job s
    | csExit r prior =>
      obtain ⟨-, -, hr, -⟩ := h.dsp.exit r prior hctl
      exact .inr ⟨r, rfl, hr⟩
    | txHold => exact noFailure_symbolDone (delayUs s.txHb.toNat s)
    | rxPoll =>
      simp only [rxPollEvent]
      split
      · exact noFailure_receiveTimeout (readNow s).2
      · exact .inl rfl
    | rxEdge t =>
      simp only [rxEdgeEvent]
      split <;> exact .inl rfl
    | rxWaitA => exact noFailure_rxWaitEvent (wrapped := fun u => { u with ctl := .rxWaitB none }) (fun _ => .inl rfl) s
    | rxWaitB a => exact noFailure_rxWaitEvent noFailure_receiveTimeout s
    | rxReadB a =>
      cases a with
      | none => exact noFailure_receiveTimeout (readRxPin s).2
      | some l => exact noFailure_windowDone _ _ (readRxPin s).2
    | _ => exact .inl rfl

theorem not_noFailure {s t : State} {r : Response} (hs : s.response = none) (ht : t.response = some r)
    (hr : r.status = .transmissionFailed) : ¬ NoFailure s t := by
  rintro (h | ⟨r', h, hr'⟩)
  · simp [h, hs] at ht
  · obtain rfl : r' = r := by simpa [h] using ht
    exact hr' hr

theorem raise_txRetries (st : Status) (s : State) : (raise st s).txRetries = s.txRetries := by
  unfold raise finish
  split <;> rfl

/-- A poll that fails the transmission has found the retries at the bound. -/
theorem txPollEvent_failed {s : State} (h : ¬ NoFailure s (txPollEvent s)) :
    s.params.maxRetries = some s.txRetries ∧ (txPollEvent s).txRetries = s.txRetries := by
  unfold txPollEvent at *
  cases hp : waitPoll s.txWstart s.txHb (readNow s).1 with
  | wrapped =>
    cases hspent : retriesSpent (readNow s).2 with
    | true =>
      simp only [attemptFailed, hspent, if_true]
      exact ⟨by simpa [retriesSpent] using hspent, raise_txRetries _ _⟩
    | false =>
      simp only [hp, attemptFailed, hspent] at h
      exact absurd (.inl rfl) h
  | elapsed =>
    simp only [hp] at h
    exact absurd (noFailure_symbolDone (readNow s).2) h
  | waiting =>
    simp only [hp] at h
    exact absurd (.inl rfl) h

/-- An instruction gives no TransmissionFailed by its first event. -/
theorem noFailure_exec {i : Instr} {s t : State} (h : Coherent s) (hx : exec i s = .next t) :
    ∀ r, t.response = some r → r.status ≠ .transmissionFailed := by
  obtain ⟨body, hbody, hi⟩ := exec_requestBody i s
  obtain ⟨hb, hnext⟩ := request_next (hi ▸ hx)
  obtain ⟨-, -, -, hcs⟩ := h.idle hb
  have hu := coherent_body hbody h hb
  have hfirst := body_firstPlace hbody (s := accept s) hcs
  obtain ⟨hbusy, rfl⟩ | ⟨hbusy, he⟩ := hnext
  · obtain ⟨-, hr⟩ | hctl := hfirst
    · exact hr
    · have hne : (body (accept s)).ctl ≠ .idle := by
        obtain hctl | ⟨job, hctl⟩ | ⟨hctl, -⟩ | hctl := hctl <;> simp [hctl]
      simp [hu.busy.2 hne] at hbusy
  · intro r hr hst
    refine not_noFailure (hu.unanswered hbusy) hr hst (noFailure_event hu he ?_)
    obtain ⟨hbusy', -⟩ | hctl | ⟨job, hctl⟩ | ⟨hctl, -⟩ | hctl := hfirst
    · simp [hbusy'] at hbusy
    all_goals simp [hctl]

/-- Settles O53: only a poll of an active attempt gives the status, and only with the retries at the bound. -/
theorem transmissionFailedOnlyAtTheBound : Obligations.TransmissionFailedOnlyAtTheBound := by
  unfold Obligations.TransmissionFailedOnlyAtTheBound
  intro s t r h hs hstep hr hst
  have hfail := not_noFailure hs hr hst
  obtain ⟨p, s', i, hf, -, hx⟩ | ⟨-, -, he⟩ | ⟨-, -, rfl⟩ := step_next hstep
  · obtain ⟨hs', -⟩ := fetch_keeps_coherent h hf
    exact absurd hst (noFailure_exec hs' hx r hr)
  · have hc : s.ctl = .txPoll := by
      by_contra hc
      exact hfail (noFailure_event h he hc)
    have hext := event_external he
    obtain rfl : txPollEvent s = t := by simpa [event, hc] using he
    obtain ⟨hbound, hretries⟩ := txPollEvent_failed hfail
    refine ⟨hbound, h.tx.timerWait (.inr hc), hc, (congrArg External.txLine hext).trans ?_, hretries⟩
    simp only [primitive, hc]
    rfl
  · simp [hs] at hr

end Sys2Proof.Safety
end

section
/-! PROOF. The block's contract with its environment (60_exceptions.md R349 to R352): the event of a step is the
primitive due, whose arguments are those of the registers. -/

namespace Sys2Proof.Safety

open Sys2Proof.Machine

/-- An event of a step from `s` to `t` inside the contract, as EventsStayInContract states it. -/
def InContract (s t : State) (e : Event) : Prop :=
  match e with
  | .setPinMode pin dir pull =>
    settingUp t.ctl = true ∧ pin = t.cfgTxpin ∧ dir = .output ∧ pull = s.params.txPull ∨
      s.ctl = .setupRxMode ∧ pin = s.cfgRxpin ∧ dir = .input ∧ pull = s.params.rxPull
  | .writePin pin level => pin = s.cfgTxpin ∧ t.txLine = some (pinLevel s.params.txInvert level)
  | .readPin pin _ => pin = s.cfgRxpin ∧ (waitingForEdge s.ctl = true ∨ sampling s.ctl = true)
  | .now _ =>
    s.params.txVariant = .timerWait ∧ (s.ctl = .txStart ∨ s.ctl = .txPoll) ∨
      s.ctl = .rxPoll ∨ s.ctl = .rxWaitA ∨ (∃ a, s.ctl = .rxWaitB a) ∨
      (s.ctl = .idle ∨ s.ctl = .rxCall) ∧ t.ctl = .rxFirst ∧ t.rxState = .edgeWait
  | .delayUs n => (n = 9000 ∨ n = s.txHb.toNat ∨ n = 5 * s.txHb.toNat ∨ n = 6 * s.txHb.toNat) ∧ n ≤ 3000000
  | .intDisableSave token => s.params.txVariant = .busyDelay ∧ t.csToken = token ∧ s.csActive = false
  | .intRestore token => s.params.txVariant = .busyDelay ∧ token = s.csToken ∧ s.csActive = true

theorem pinLevel_pinLevel (invert : Bool) (l : Level) : pinLevel invert (pinLevel invert l) = l := by
  cases invert <;> cases l <;> rfl

/-- The primitive due in a coherent state stays inside the contract. -/
theorem event_inContract {s t : State} {e : Event} (h : Coherent s) (he : event s = .next t)
    (htrace : t.trace = e :: s.trace) : InContract s t e := by
  have hext := event_external he
  have hline : t.txLine = (primitive s).txLine := congrArg External.txLine hext
  have htoken : t.csToken = (primitive s).csToken := congrArg External.csToken hext
  have due {e' : Event} (h' : (primitive s).trace = e' :: s.trace) : e = e' :=
    (List.cons.inj (htrace.symm.trans ((event_trace he).trans h'))).1
  have written {l : Level} (hc : primitive s = writeTx l s) : InContract s t e := by
    obtain rfl := due (congrArg State.trace hc)
    exact ⟨rfl, by rw [pinLevel_pinLevel]; exact hline.trans (congrArg State.txLine hc)⟩
  have read (hc : primitive s = (readRxPin s).2) (hr : waitingForEdge s.ctl = true ∨ sampling s.ctl = true) :
      InContract s t e := by
    obtain rfl := due (congrArg State.trace hc)
    exact ⟨rfl, hr⟩
  have polled (hc : primitive s = (readNow s).2)
      (hr : s.params.txVariant = .timerWait ∧ (s.ctl = .txStart ∨ s.ctl = .txPoll) ∨
        s.ctl = .rxPoll ∨ s.ctl = .rxWaitA ∨ (∃ a, s.ctl = .rxWaitB a) ∨
        (s.ctl = .idle ∨ s.ctl = .rxCall) ∧ t.ctl = .rxFirst ∧ t.rxState = .edgeWait) : InContract s t e := by
    obtain rfl := due (congrArg State.trace hc)
    exact hr
  have delayed {n : Nat} (hc : primitive s = delayUs n s)
      (hn : (n = 9000 ∨ n = s.txHb.toNat ∨ n = 5 * s.txHb.toNat ∨ n = 6 * s.txHb.toNat) ∧ n ≤ 3000000) :
      InContract s t e := by
    obtain rfl := due (congrArg State.trace hc)
    exact hn
  have period (ht : transmitting s.ctl = true) : s.txHb.toNat ≤ 500000 := by
    obtain ⟨-, -, hle⟩ := (h.attempting ht).txHb
    exact hle
  cases hc : s.ctl with
  | idle => exact absurd hc (ctl_ne_idle_of_event he)
  | setupTxMode =>
    obtain rfl := due (by simp only [primitive, hc]; rfl)
    obtain rfl : setupTxModeEvent s = t := by simpa [event, hc] using he
    exact .inl ⟨rfl, rfl, rfl, rfl⟩
  | setupIdleLevel => exact written (by simp only [primitive, hc]; rfl)
  | setupRxMode =>
    obtain rfl := due (by simp only [primitive, hc]; rfl)
    exact .inr ⟨hc, rfl, rfl, rfl⟩
  | csEnter job =>
    obtain rfl := due (by simp only [primitive, hc]; rfl)
    exact ⟨h.dsp.enter job hc, by rw [htoken]; simp only [primitive, hc]; rfl, h.csInactive (by rw [hc]; rfl)⟩
  | csExit r prior =>
    obtain rfl := due (by simp only [primitive, hc]; rfl)
    obtain ⟨hv, -⟩ := h.dsp.exit r prior hc
    exact ⟨hv, rfl, h.dsp.guard.2 ⟨hv, by rw [hc]; rfl⟩⟩
  | txWrite => exact written (by simp only [primitive, hc]; rfl)
  | txHold =>
    have hle := period (by rw [hc]; rfl)
    exact delayed (by simp only [primitive, hc]) ⟨.inr (.inl rfl), by omega⟩
  | txStart => exact polled (by simp only [primitive, hc]) (.inl ⟨h.tx.timerWait (.inl hc), .inl hc⟩)
  | txPoll => exact polled (by simp only [primitive, hc]) (.inl ⟨h.tx.timerWait (.inr hc), .inr hc⟩)
  | txSettle =>
    have hle := period (by rw [hc]; rfl)
    exact delayed (n := 6 * s.txHb.toNat) (by simp only [primitive, hc]; rfl) ⟨.inr (.inr (.inr rfl)), by omega⟩
  | txPause =>
    have hle := period (by rw [hc]; rfl)
    exact delayed (n := 5 * s.txHb.toNat) (by simp only [primitive, hc]; rfl) ⟨.inr (.inr (.inl rfl)), by omega⟩
  | repeatGap => exact delayed (n := 9000) (by simp only [primitive, hc]; rfl) ⟨.inl rfl, by decide⟩
  | rxCall =>
    obtain rfl : rxCallEvent s = t := by simpa [event, hc] using he
    exact polled (by simp only [primitive, hc]) (.inr (.inr (.inr (.inr ⟨.inr hc, rfl, rfl⟩))))
  | rxFirst => exact read (by simp only [primitive, hc]) (.inl (by rw [hc]; rfl))
  | rxPoll => exact polled (by simp only [primitive, hc]) (.inr (.inl hc))
  | rxEdge t => exact read (by simp only [primitive, hc]) (.inl (by rw [hc]; rfl))
  | rxWaitA => exact polled (by simp only [primitive, hc]) (.inr (.inr (.inl hc)))
  | rxReadA => exact read (by simp only [primitive, hc]) (.inr (by rw [hc]; rfl))
  | rxWaitB a => exact polled (by simp only [primitive, hc]) (.inr (.inr (.inr (.inl ⟨a, hc⟩))))
  | rxReadB a => exact read (by simp only [primitive, hc]) (.inr (by rw [hc]; rfl))

/-- The first event of a request stays inside the contract. -/
theorem exec_inContract {i : Instr} {s t : State} {e : Event} (h : Coherent s) (hx : exec i s = .next t)
    (htrace : t.trace = e :: s.trace) : InContract s t e := by
  obtain ⟨body, hbody, hi⟩ := exec_requestBody i s
  obtain ⟨hb, hnext⟩ := request_next (hi ▸ hx)
  obtain ⟨hidle, -, -, hcs⟩ := h.idle hb
  have hu := coherent_body hbody h hb
  have hext := body_external hbody (accept s)
  have hparams : (body (accept s)).params = s.params := body_params hbody (accept s)
  have hcs' : (body (accept s)).csActive = false := (congrArg External.csActive hext).trans hcs
  have hfirst := body_firstPlace hbody (s := accept s) hcs
  have hutrace : (body (accept s)).trace = s.trace := congrArg External.trace hext
  obtain ⟨-, rfl⟩ | ⟨hbusy, he⟩ := hnext
  · exact absurd (htrace.symm.trans hutrace) (List.cons_ne_self e s.trace)
  · have hc := event_inContract hu he (htrace.trans (by rw [hutrace]))
    have hprim : e :: s.trace = (primitive (body (accept s))).trace := htrace.symm.trans (event_trace he)
    obtain ⟨hanswered, -⟩ | hctl | ⟨job, hctl⟩ | ⟨hctl, hpin⟩ | hctl := hfirst
    · simp [hanswered] at hbusy
    all_goals
      simp only [primitive, hctl] at hprim
      obtain ⟨rfl, -⟩ := List.cons.inj hprim
      simp only [InContract, hctl, hparams, hcs'] at hc
    · obtain ⟨hset, hpin, -⟩ | ⟨hset, -⟩ := hc
      · exact .inl ⟨hset, hpin, rfl, congrArg Params.txPull hparams⟩
      · cases hset
    · obtain ⟨hv, htoken, -⟩ := hc
      exact ⟨hv, htoken, hcs⟩
    · obtain ⟨-, hline⟩ := hc
      exact ⟨hpin, by rw [hline, hparams]⟩
    · have hplace : t.ctl = .rxFirst ∧ t.rxState = .edgeWait := by simpa using hc
      exact .inr (.inr (.inr (.inr ⟨.inl hidle, hplace⟩)))

/-- Settles O51: the event of a step is the first event of a request, or the event of an active one. -/
theorem eventsStayInContract : Obligations.EventsStayInContract := by
  unfold Obligations.EventsStayInContract
  intro s t e h hstep htrace
  have hin : InContract s t e := by
    obtain ⟨p, s', i, hf, -, hx⟩ | ⟨-, -, he⟩ | ⟨-, -, rfl⟩ := step_next hstep
    · obtain ⟨hs', -⟩ := fetch_keeps_coherent h hf
      have hin := exec_inContract (e := e) hs' hx
      obtain ⟨-, rfl⟩ | ⟨-, -, rest, -, rfl⟩ := fetch_next hf <;> exact hin htrace
    · exact event_inContract h he htrace
    · exact absurd htrace.symm (List.cons_ne_self e t.trace)
  cases e <;> exact hin

end Sys2Proof.Safety
end

section
/-! PROOF. The default tables by opcode (40_frame_codec.md section 3): the entry of every opcode, and the codec
requests and binding calls that read them. -/

namespace Sys2Proof.Safety

open Sys2Proof.Machine

/-! The entries. -/

/-- The class of a table opcode by its section (40_frame_codec.md sections 3.1 to 3.3). -/
def opcodeClass (c : Nat) : CmdClass :=
  if c ∈ plainOpcodes then .simple else if c ∈ paramOpcodes then .param else .special

/-- The transmit mode of a table opcode (40_frame_codec.md section 3). -/
def opcodeMode (c : Nat) : TxMode :=
  if c ∈ repeatOpcodes then .repeatTwice else if c ∈ queryOpcodes then .query else .simple

/-- The data rule of a special opcode (40_frame_codec.md section 3.3). -/
def opcodeRule (c : Nat) : DataRule :=
  if c ∈ zeroOpcodes then .zero else if c ∈ dataOpcodes then .data else .addr6

theorem cmdLookup_default : ∀ c : Byte, c.toNat ∈ plainOpcodes ++ paramOpcodes ++ specialOpcodes →
    cmdLookup defaultTables c = some ⟨c, opcodeClass c.toNat, opcodeMode c.toNat⟩ := by
  decide

theorem cmdLookup_default_none : ∀ c : Byte, c.toNat ∉ plainOpcodes ++ paramOpcodes ++ specialOpcodes →
    cmdLookup defaultTables c = none := by
  decide

theorem specialLookup_default : ∀ c : Byte, c.toNat ∈ specialOpcodes →
    specialLookup defaultTables c = some ⟨c, c, opcodeRule c.toNat⟩ := by
  decide

theorem specialLookup_default_none : ∀ c : Byte, c.toNat ∉ specialOpcodes →
    specialLookup defaultTables c = none := by
  decide

theorem opcodeClass_plain {c : Nat} (h : c ∈ plainOpcodes) : opcodeClass c = .simple := by
  simp [opcodeClass, h]

theorem opcodeClass_param {c : Nat} (h : c ∈ paramOpcodes) : opcodeClass c = .param := by
  revert c; decide

theorem opcodeClass_special {c : Nat} (h : c ∈ specialOpcodes) : opcodeClass c = .special := by
  revert c; decide

theorem opcodeRule_zero {c : Nat} (h : c ∈ zeroOpcodes) : opcodeRule c = .zero := by
  simp [opcodeRule, h]

theorem opcodeRule_data {c : Nat} (h : c ∈ dataOpcodes) : opcodeRule c = .data := by
  revert c; decide

theorem opcodeRule_addr6 {c : Nat} (h : c ∈ addr6Opcodes) : opcodeRule c = .addr6 := by
  revert c; decide

theorem mem_specialOpcodes {c : Nat} :
    c ∈ specialOpcodes ↔ c ∈ zeroOpcodes ∨ c ∈ dataOpcodes ∨ c ∈ addr6Opcodes := by
  simp only [specialOpcodes, List.mem_append, or_assoc]

/-- No plain opcode is reserved or takes a parameter (40_frame_codec.md R121). -/
theorem plainOpcodes_accepted : ∀ c : Byte, c.toNat ∈ plainOpcodes →
    isReserved c = false ∧ isParamCmd defaultTables c = false := by
  decide

theorem paramOpcodes_accepted : ∀ c : Byte, c.toNat ∈ paramOpcodes → isParamCmd defaultTables c = true := by
  decide

/-! ENC_PARAM. -/

theorem exec_encParam (mode : Mode) (address command param : Byte) {s : State} (hs : s.reqBusy = false) :
    exec (.encParam mode address command param) s =
      .next (answered (codecResponse (encodeParam s.params.tables mode address command param)) s) :=
  request_answer _ s hs

/-- The opcode and parameter checks come before the address check (40_frame_codec.md R129). -/
theorem encodeParam_rejected {t : Tables} (mode : Mode) (a : Byte) {c p : Byte}
    (h : c ∉ t.paramCmds ∨ 15 < p.toNat) : encodeParam t mode a c p = .error .wrongCommand := by
  unfold encodeParam
  split
  · rfl
  · rename_i hc
    have hmem : c ∈ t.paramCmds := isParamCmd_iff.1 (by simpa using hc)
    have hp : 15 < p.toNat := h.resolve_left (not_not.2 hmem)
    rw [if_pos (show paramMax < p.toNat from hp)]

theorem encodeParam_of_mem {t : Tables} (mode : Mode) (a : Byte) {c p : Byte} (hc : c ∈ t.paramCmds)
    (hp : p.toNat ≤ 15) : encodeParam t mode a c p = encodeAddressed mode a (c ||| p) :=
  encodeParam_accepted t mode a c p (isParamCmd_iff.2 hc) hp

/-- An opcode with low nibble 0 and a parameter have no bit in common (30_encoding.md R94). -/
theorem paramByte_toNat : ∀ c : Byte, c.toNat % 16 = 0 → ∀ p : Byte, p.toNat ≤ 15 →
    (c ||| p).toNat = c.toNat + p.toNat := by
  decide

/-- Settles O14: ENC_PARAM answers with what its encoder gives, check by check. -/
theorem encParamFrames : Obligations.EncParamFrames := by
  unfold Obligations.EncParamFrames
  intro mode address command param s hs htables
  rw [exec_encParam mode address command param hs]
  refine ⟨fun h => ?_, fun hc hp ha => ?_, fun hc hp ha => ?_⟩
  · rw [encodeParam_rejected mode address h]; rfl
  · rw [encodeParam_of_mem mode address hc hp, encodeAddressed_outOfRange _ ha]; rfl
  · rw [encodeParam_of_mem mode address hc hp, encodeAddressed_inRange _ ha,
      paramByte_toNat command (htables command hc) param hp]
    rfl

/-! ENC_SPECIAL. -/

theorem exec_encSpecial (command data : Byte) {s : State} (hs : s.reqBusy = false) :
    exec (.encSpecial command data) s =
      .next (answered (codecResponse (encodeSpecial s.params.tables command data)) s) :=
  request_answer _ s hs

/-- The frame of a special command whose rule carries the data operand (40_frame_codec.md R130). -/
theorem encodeSpecial_default {c d : Byte} (hc : c.toNat ∈ specialOpcodes)
    (hd : opcodeRule c.toNat = .addr6 → d.toNat ≤ 63) :
    encodeSpecial defaultTables c d = .ok (mkFrame c (specialData (opcodeRule c.toNat) d)) := by
  have hdata : ¬ (opcodeRule c.toNat = .addr6 ∧ slaveAddrMax < d.toNat) := by
    rintro ⟨hr, hlt⟩
    exact absurd (hd hr) (not_le.2 hlt)
  simp only [encodeSpecial, specialLookup_default c hc, encodeData, if_neg hdata]

/-- A 6-bit payload out of range (40_frame_codec.md R130). -/
theorem encodeSpecial_default_wrongAddress {c d : Byte} (hc : c.toNat ∈ addr6Opcodes) (hd : 63 < d.toNat) :
    encodeSpecial defaultTables c d = .error .wrongAddress := by
  have hs : c.toNat ∈ specialOpcodes := mem_specialOpcodes.2 (.inr (.inr hc))
  have hdata : encodeData .addr6 d = .error .wrongAddress := if_pos ⟨rfl, hd⟩
  simp only [encodeSpecial, specialLookup_default c hs, opcodeRule_addr6 hc, hdata]

theorem encodeSpecial_default_wrongCommand {c : Byte} (d : Byte) (hc : c.toNat ∉ specialOpcodes) :
    encodeSpecial defaultTables c d = .error .wrongCommand := by
  simp only [encodeSpecial, specialLookup_default_none c hc]

/-- A 6-bit payload is shifted over the fixed low bit (30_encoding.md R95). -/
theorem addr6Data_toNat : ∀ d : Byte, d.toNat ≤ 63 → (specialData .addr6 d).toNat = 2 * d.toNat + 1 := by
  decide

/-- Settles O15: ENC_SPECIAL answers with what its encoder gives for the opcode's data rule. -/
theorem encSpecialFrames : Obligations.EncSpecialFrames := by
  unfold Obligations.EncSpecialFrames
  intro command data s hs htables
  rw [exec_encSpecial command data hs, htables]
  refine ⟨fun hc => ?_, fun hc => ?_, fun hc hd => ?_, fun hc hd => ?_, fun hc => ?_⟩
  · have hr := opcodeRule_zero hc
    have hzero : (specialData .zero data).toNat = 0 := rfl
    rw [encodeSpecial_default (mem_specialOpcodes.2 (.inl hc)) (by rw [hr]; exact nofun), mkFrame_eq_ofNat, hr,
      hzero, Nat.add_zero]
    rfl
  · have hr := opcodeRule_data hc
    rw [encodeSpecial_default (mem_specialOpcodes.2 (.inr (.inl hc))) (by rw [hr]; exact nofun),
      mkFrame_eq_ofNat, hr]
    rfl
  · rw [encodeSpecial_default (mem_specialOpcodes.2 (.inr (.inr hc))) (fun _ => hd), mkFrame_eq_ofNat,
      opcodeRule_addr6 hc, addr6Data_toNat data hd]
    rfl
  · rw [encodeSpecial_default_wrongAddress hc hd]; rfl
  · rw [encodeSpecial_default_wrongCommand data hc]; rfl

/-! CLASSIFY and TMODE. -/

theorem classCode_opcodeClass (c : Nat) :
    classCode (opcodeClass c) = if c ∈ plainOpcodes then 0 else if c ∈ paramOpcodes then 1 else 2 := by
  unfold opcodeClass
  split
  · rfl
  · split <;> rfl

theorem tmodeCode_opcodeMode (c : Nat) :
    tmodeCode (opcodeMode c) = if c ∈ repeatOpcodes then 1 else if c ∈ queryOpcodes then 2 else 0 := by
  unfold opcodeMode
  split
  · rfl
  · split <;> rfl

/-- Settles O16: both requests answer from the one entry of the opcode. -/
theorem classifyAndTmodeCodes : Obligations.ClassifyAndTmodeCodes := by
  unfold Obligations.ClassifyAndTmodeCodes
  intro command s hs htables c
  rw [exec_classify command hs, exec_tmode command hs, htables]
  refine ⟨fun hc => ?_, fun hc => ?_⟩
  · have he := cmdLookup_default command hc
    rw [classifyCmd_of_some he, tmodeCmd_of_some he, ← classCode_opcodeClass, ← tmodeCode_opcodeMode]
    exact ⟨rfl, rfl⟩
  · have he := cmdLookup_default_none command hc
    rw [classifyCmd_of_none he, tmodeCmd_of_none he]
    exact ⟨rfl, rfl⟩

/-! The tables' constraints and the binding calls. -/

/-- Settles O18: each constraint holds of the entries as they are listed. -/
theorem defaultTablesLegal : Obligations.DefaultTablesLegal := by
  unfold Obligations.DefaultTablesLegal
  decide

/-- Settles O54: a binding-level send puts its operand in the address unless the command is special. -/
theorem bindingCallsExpand : Obligations.BindingCallsExpand := by
  unfold Obligations.BindingCallsExpand
  refine ⟨fun _ _ => rfl, fun _ _ _ => rfl, fun m c x hm hc => ?_, fun m c x h => ?_⟩
  · rw [BindingCall.expand, if_pos ⟨hm, by rw [specialLookup_default_none c hc]; rfl⟩]
  · rw [BindingCall.expand, if_neg]
    rintro ⟨hm, hnone⟩
    have hc := h.resolve_left hm
    simp [specialLookup_default c hc] at hnone

end Sys2Proof.Safety
end

section
/-! PROOF. The registers at reset (70_reset_and_hazards.md R370). -/

namespace Sys2Proof.Safety

open Sys2Proof.Machine

/-- Settles O2: reset writes each of these registers, and its parameters are the spec's defaults. -/
theorem resetRegisters : Obligations.ResetRegisters := by
  unfold Obligations.ResetRegisters
  exact ⟨fun p => ⟨rfl, rfl, rfl, rfl, rfl, rfl, rfl, rfl, rfl, rfl, rfl, rfl, rfl⟩, rfl, rfl, rfl, rfl, rfl, rfl, rfl⟩

end Sys2Proof.Safety
end

section
/-! PROOF. The port and the frames (10_state.md R31; 60_exceptions.md R337; 30_encoding.md R89, R90): what a step
does with what is presented, and the format of a frame by its two bytes. -/

namespace Sys2Proof.Safety

open Sys2Proof.Machine

/-! What is presented. -/

theorem step_of_port {s : State} {p : Presented} {i : Instr} (hp : s.port = some p) (hi : p.instr = .ok i) :
    step s = exec i { s with port := none } := by
  simp only [step, fetch, hp, hi]

theorem step_refuses {s : State} {p : Presented} {why : DecodeError} (hp : s.port = some p)
    (hi : p.instr = .error why) : step s = .refused (.notAnInstruction why) := by
  simp only [step, fetch, hp, hi]

theorem step_of_program {s : State} {p : Presented} {rest : List Presented} {i : Instr} (hport : s.port = none)
    (hb : s.reqBusy = false) (hp : s.program = p :: rest) (hi : p.instr = .ok i) :
    step s = exec i { s with program := rest } := by
  simp [step, fetch, hport, hb, hp, hi]

/-- A word the reader decodes is presented as its instruction. -/
theorem decode_of_decodeTableWord {nbits w : Nat} {i : Instr} (h : decodeTableWord nbits w = some i) :
    decode (tableWord nbits w) = .ok i := by
  unfold decodeTableWord at h
  split at h
  · rename_i i' hd
    obtain rfl := Option.some.inj h
    exact hd
  · cases h

/-- Settles O3: by where the request stands, and where nothing is presented. -/
theorem stepRunsWhatIsPresented : Obligations.StepRunsWhatIsPresented := by
  unfold Obligations.StepRunsWhatIsPresented
  refine ⟨fun s p i => step_of_port, fun s nbits w i h => ?_, fun s p rest i => step_of_program, fun s => step_event,
    fun s => step_waits⟩
  exact step_of_port (s := s.withFetchWord nbits w) rfl ((present_instr _).trans (decode_of_decodeTableWord h))

/-- Settles O22: the meaning of a frame row is the meaning of its request. -/
theorem rowsAreRequests : Obligations.RowsAreRequests := by
  unfold Obligations.RowsAreRequests
  intro i r s h
  cases i with
  | setup | arc | send | transmit | receive | classify | tmode | encArc | encCmd | encParam | encSpecial => cases h
  | _ =>
    obtain rfl := Option.some.inj h
    rfl

/-! Request records. -/

theorem modeOfCode_isSome : ∀ code : BitVec 2, code ≠ 3 → (modeOfCode code).isSome = true := by
  decide

theorem withMode_ok {code : BitVec 2} (h : code ≠ 3) (build : Mode → Instr) :
    ∃ mode, withMode code build = .ok (build mode) := by
  obtain ⟨mode, hm⟩ := Option.isSome_iff_exists.1 (modeOfCode_isSome code h)
  exact ⟨mode, by simp only [withMode, hm]⟩

/-- An op beyond the eleven requests is unassigned (30_encoding.md R100). -/
theorem decodeRequest_unassigned {r : Request} (h : 0xB ≤ r.op.toNat) :
    decodeRequest r = .error (.unassignedOp r.op) := by
  unfold decodeRequest
  split
  case h_12 => rfl
  all_goals omega

/-- A record of a request that reads the mode, with mode code 3 (30_encoding.md R102). -/
theorem decodeRequest_noSuchMode {r : Request} (h : r.op.toNat ∈ [0x1, 0x2, 0x7, 0x8, 0x9]) (hm : r.mode = 3) :
    decodeRequest r = .error .noSuchMode := by
  simp only [List.mem_cons, List.not_mem_nil, or_false] at h
  obtain h | h | h | h | h := h <;> simp only [decodeRequest, h, hm] <;> rfl

/-- Every other record is a well-formed request. -/
theorem decodeRequest_ok {r : Request} (h : r.op.toNat ≤ 0xA)
    (hm : r.op.toNat ∈ [0x1, 0x2, 0x7, 0x8, 0x9] → r.mode ≠ 3) :
    ∃ i, decodeRequest r = .ok i ∧ WellFormed i = true := by
  have reads {build : Mode → Instr} (hop : r.op.toNat ∈ [0x1, 0x2, 0x7, 0x8, 0x9])
      (hw : ∀ mode, WellFormed (build mode) = true) : ∃ i, withMode r.mode build = .ok i ∧ WellFormed i = true := by
    obtain ⟨mode, hmode⟩ := withMode_ok (hm hop) build
    exact ⟨_, hmode, hw mode⟩
  unfold decodeRequest
  split
  case h_12 =>
    simp only [imp_false] at *
    omega
  case h_2 hop | h_3 hop | h_8 hop | h_9 hop | h_10 hop => exact reads (by rw [hop]; decide) fun _ => rfl
  all_goals exact ⟨_, rfl, rfl⟩

/-- Settles O6: by the op of the record. -/
theorem unassignedRequestsRefused : Obligations.UnassignedRequestsRefused := by
  unfold Obligations.UnassignedRequestsRefused
  exact ⟨fun s r hp h => step_refuses hp (decodeRequest_unassigned h),
    fun s r hp h hm => step_refuses hp (decodeRequest_noSuchMode h hm), fun r => decodeRequest_ok⟩

/-! Frames by their bytes. -/

theorem frameHeader_toNat (f : Frame) : (frameHeader f).toNat = f.toNat / 256 := by
  have hf := f.isLt
  rw [frameHeader, BitVec.extractLsb'_toNat, Nat.shiftRight_eq_div_pow]
  omega

theorem frameData_eq (f : Frame) : frameData f = BitVec.ofNat 8 (f.toNat % 256) := by
  apply BitVec.eq_of_toNat_eq
  rw [frameData, BitVec.extractLsb'_toNat, Nat.shiftRight_zero, BitVec.toNat_ofNat]
  omega

/-- The selector is the parity of the header (30_encoding.md R80). -/
theorem selector_parity : ∀ h : Byte, h.getLsbD 0 = decide (h.toNat % 2 = 1) := by
  decide

theorem slaveHeader_fields : ∀ h : Byte, h.toNat < 0x80 →
    headerAddress h = some (.slave, BitVec.ofNat 8 (h.toNat / 2)) ∧ (specialRows.lookup h).isNone = true := by
  decide

theorem groupHeader_fields : ∀ h : Byte, 0x80 ≤ h.toNat → h.toNat < 0xA0 →
    headerAddress h = some (.group, BitVec.ofNat 8 (h.toNat / 2 % 16)) ∧
    (specialRows.lookup h).isNone = true := by
  decide

theorem broadcastHeader_fields : ∀ h : Byte, 0xFE ≤ h.toNat →
    headerAddress h = some (.broadcast, 0) ∧ (specialRows.lookup h).isNone = true := by
  decide

theorem specialHeader_isSome : ∀ h : Byte, h.toNat ∈ specialOpcodes → (specialRows.lookup h).isSome = true := by
  decide

theorem unassignedHeader_fields : ∀ h : Byte, 0xA0 ≤ h.toNat → h.toNat ≤ 0xFD → h.toNat ∉ specialOpcodes →
    headerAddress h = none ∧ (specialRows.lookup h).isNone = true := by
  decide

/-- Settles O55: the header byte gives the selector, the mode and the address of each format. -/
theorem frameFormats : Obligations.FrameFormats := by
  unfold Obligations.FrameFormats
  intro f
  rw [← frameHeader_toNat, ← frameData_eq]
  have arc {mode : Mode} {a : Byte} (hs : (frameHeader f).toNat % 2 = 0)
      (h : headerAddress (frameHeader f) = some (mode, a)) : decodeFormat f = .arc mode a (frameData f) :=
    decodeFormat_arc (by rw [selector_parity, hs]; rfl) h
  have command {mode : Mode} {a : Byte} (hs : (frameHeader f).toNat % 2 = 1)
      (h : headerAddress (frameHeader f) = some (mode, a) ∧ (specialRows.lookup (frameHeader f)).isNone = true) :
      decodeFormat f = .command mode a (frameData f) := by
    obtain ⟨ha, hl⟩ := h
    exact decodeFormat_command (by rw [selector_parity, hs]; rfl) (Option.isNone_iff_eq_none.1 hl) ha
  refine ⟨fun h hs => ?_, fun h hs => ?_, fun h h' hs => ?_, fun h h' hs => ?_, fun h => ?_, fun h => ?_, fun h => ?_,
    fun h h' hn => ?_⟩
  · exact arc hs (slaveHeader_fields _ h).1
  · exact command hs (slaveHeader_fields _ h)
  · exact arc hs (groupHeader_fields _ h h').1
  · exact command hs (groupHeader_fields _ h h')
  · rw [decodeFormat_special (specialHeader_isSome _ h), BitVec.ofNat_toNat, BitVec.setWidth_eq]
  · exact arc (by rw [h]) (broadcastHeader_fields _ (by rw [h])).1
  · exact command (by rw [h]) (broadcastHeader_fields _ (by rw [h]; decide))
  · obtain ⟨ha, hl⟩ := unassignedHeader_fields _ h h' hn
    rw [decodeFormat_unassigned (Option.isNone_iff_eq_none.1 hl) ha, BitVec.ofNat_toNat, BitVec.setWidth_eq]

/-- Settles O9: each word decodes as its row of the opcode table. -/
theorem specWordsDecode : Obligations.SpecWordsDecode := by
  unfold Obligations.SpecWordsDecode
  decide

end Sys2Proof.Safety
end

section
/-! PROOF. SEND with the default tables and the rows of the opcode table (40_frame_codec.md section 3): what SEND
encodes is a row, and a row's request encodes its frame. -/

namespace Sys2Proof.Safety

open Sys2Proof.Machine

/-! SEND by the opcode's class. -/

theorem encodeSend_of_entry {t : Tables} {c : Byte} {e : CmdEntry} (h : cmdLookup t c = some e) (mode : Mode)
    (a p : Byte) :
    encodeSend t mode c a p = (encodeEntry t e mode c a p).map fun f => (e.tmode, f) := by
  simp only [encodeSend, h]
  cases encodeEntry t e mode c a p <;> rfl

theorem encodeSend_unknown {c : Byte} (mode : Mode) (a p : Byte)
    (h : c.toNat ∉ plainOpcodes ++ paramOpcodes ++ specialOpcodes) :
    encodeSend defaultTables mode c a p = .error .wrongCommand := by
  simp only [encodeSend, cmdLookup_default_none c h]

theorem encodeSend_plain {c : Byte} (mode : Mode) (a p : Byte) (h : c.toNat ∈ plainOpcodes) :
    encodeSend defaultTables mode c a p =
      (encodeAddressed mode a c).map fun f => (opcodeMode c.toNat, f) := by
  obtain ⟨hr, hp⟩ := plainOpcodes_accepted c h
  rw [encodeSend_of_entry (cmdLookup_default c (by simp [h]))]
  simp only [encodeEntry, opcodeClass_plain h, encodeCommand_accepted _ mode a c hr hp]

theorem encodeSend_param {c : Byte} (mode : Mode) (a p : Byte) (h : c.toNat ∈ paramOpcodes) :
    encodeSend defaultTables mode c a p =
      (encodeParam defaultTables mode a c p).map fun f => (opcodeMode c.toNat, f) := by
  rw [encodeSend_of_entry (cmdLookup_default c (by simp [h]))]
  simp only [encodeEntry, opcodeClass_param h]

theorem encodeSend_special {c : Byte} (mode : Mode) (a p : Byte) (h : c.toNat ∈ specialOpcodes) :
    encodeSend defaultTables mode c a p =
      (encodeSpecial defaultTables c p).map fun f => (opcodeMode c.toNat, f) := by
  rw [encodeSend_of_entry (cmdLookup_default c (by simp [h]))]
  simp only [encodeEntry, opcodeClass_special h]

theorem encodeParam_default {c p : Byte} (mode : Mode) (a : Byte) (h : c.toNat ∈ paramOpcodes)
    (hp : p.toNat ≤ 15) : encodeParam defaultTables mode a c p = encodeAddressed mode a (c ||| p) :=
  encodeParam_accepted _ mode a c p (paramOpcodes_accepted c h) hp

/-! The rows as requests. -/

/-- A row is the SEND of its opcode with these operands, in the opcode's mode, and sends the frame it is. -/
def RowSends (i : Instr) (mode : Mode) (c a p : Byte) : Prop :=
  rowRequest i = some (.send mode c a p) ∧ rowMode i = opcodeMode c.toNat ∧ ∀ f, rowFrame i f = f

theorem plainRows_send : ∀ e ∈ plainRows, ∀ (mode : Mode) (a : Byte),
    e.1.toNat ∈ plainOpcodes ∧ RowSends (e.2 mode a) mode e.1 a 0 := by
  simp [plainRows, RowSends, rowRequest, rowMode, rowFrame, opcodeMode, plainOpcodes, repeatOpcodes, queryOpcodes]

theorem paramRows_send : ∀ e ∈ paramRows, ∀ (mode : Mode) (a p : Byte),
    e.1.toNat ∈ paramOpcodes ∧ RowSends (e.2 mode a p) mode e.1 a p := by
  simp [paramRows, RowSends, rowRequest, rowMode, rowFrame, opcodeMode, paramOpcodes, repeatOpcodes, queryOpcodes]

theorem specialRows_send : ∀ e ∈ specialRows, ∀ operand : Byte,
    e.1.toNat ∈ specialOpcodes ∧ e.2.1 = opcodeRule e.1.toNat ∧
    RowSends (e.2.2 operand) .broadcast e.1 0 operand := by
  simp [specialRows, RowSends, rowRequest, rowMode, rowFrame, opcodeMode, opcodeRule, specialOpcodes, zeroOpcodes,
    dataOpcodes, addr6Opcodes, repeatOpcodes, queryOpcodes]

theorem plainRows_lookup : ∀ c : Byte, c.toNat ∈ plainOpcodes → (plainRows.lookup c).isSome = true := by
  decide

theorem paramRows_lookup : ∀ c : Byte, c.toNat ∈ paramOpcodes → (paramRows.lookup c).isSome = true := by
  decide

/-! Addresses: a broadcast frame carries none. -/

theorem addrOk_of_encodable {mode : Mode} {a : Byte} (h : mode.encodable a = true) : addrOk mode a = true := by
  cases mode with
  | slave => exact h
  | group => exact h
  | broadcast => rfl

/-- The address a frame to this address carries. -/
def carriedAddress (mode : Mode) (a : Byte) : Byte := if mode = .broadcast then 0 else a

theorem carriedAddress_spec {mode : Mode} {a : Byte} (h : addrOk mode a = true) (sel : Bool) :
    mode.encodable (carriedAddress mode a) = true ∧
    headerByte mode (carriedAddress mode a) sel = headerByte mode a sel := by
  cases mode with
  | slave => exact ⟨h, rfl⟩
  | group => exact ⟨h, rfl⟩
  | broadcast => exact ⟨rfl, rfl⟩

theorem encodeAddressed_cases {mode : Mode} {a d : Byte} {f : Frame} (h : encodeAddressed mode a d = .ok f) :
    mode.encodable (carriedAddress mode a) = true ∧ .frame f = commandFrame mode (carriedAddress mode a) d := by
  unfold encodeAddressed at h
  split at h
  · rename_i ha
    obtain ⟨henc, hh⟩ := carriedAddress_spec ha true
    obtain rfl := Except.ok.inj h
    exact ⟨henc, by rw [commandFrame, hh]⟩
  · cases h

/-- What a special frame carries, its data rule can carry. -/
theorem carried_operand {c p : Byte} {f : Frame} (hc : c.toNat ∈ specialOpcodes)
    (h : encodeSpecial defaultTables c p = .ok f) :
    ∃ operand, (opcodeRule c.toNat).carries operand = true ∧
      .frame f = specialFrame c (opcodeRule c.toNat) operand := by
  by_cases hp : opcodeRule c.toNat = .addr6 ∧ 63 < p.toNat
  · obtain ⟨hr, hlt⟩ := hp
    have hdata : encodeData .addr6 p = .error .wrongAddress := if_pos ⟨rfl, hlt⟩
    simp only [encodeSpecial, specialLookup_default c hc, hr, hdata] at h
    cases h
  · have hp' : opcodeRule c.toNat = .addr6 → p.toNat ≤ 63 := fun hr => not_lt.1 fun hlt => hp ⟨hr, hlt⟩
    rw [encodeSpecial_default hc hp'] at h
    obtain rfl := Except.ok.inj h
    cases hr : opcodeRule c.toNat with
    | zero => exact ⟨0, rfl, rfl⟩
    | data => exact ⟨p, rfl, rfl⟩
    | addr6 => exact ⟨p, decide_eq_true (hp' hr), rfl⟩

/-! From the request to the row. -/

theorem map_ok {α β : Type} {f : α → β} {r : Except Status α} {y : β} (h : r.map f = .ok y) :
    ∃ x, r = .ok x ∧ f x = y := by
  cases r with
  | ok x => exact ⟨x, rfl, Except.ok.inj h⟩
  | error st => cases h

/-- A frame that is the row of a SEND. -/
theorem row_of_send {f : Frame} {i : Instr} {mode : Mode} {c a p : Byte} (hd : decode (.frame f) = .ok i)
    (h : RowSends i mode c a p) :
    ∃ i r, decode (.frame f) = .ok i ∧ rowRequest i = some r ∧ rowMode i = opcodeMode c.toNat ∧
      rowFrame i f = f := by
  obtain ⟨hr, hm, hf⟩ := h
  exact ⟨i, _, hd, hr, hm, hf f⟩

theorem send_frame_is_row {mode : Mode} {c a p : Byte} {tmode : TxMode} {f : Frame}
    (h : encodeSend defaultTables mode c a p = .ok (tmode, f)) :
    ∃ i r, decode (.frame f) = .ok i ∧ rowRequest i = some r ∧ rowMode i = tmode ∧ rowFrame i f = f := by
  by_cases hplain : c.toNat ∈ plainOpcodes
  · rw [encodeSend_plain mode a p hplain] at h
    obtain ⟨_, hf, ⟨⟩⟩ := map_ok h
    obtain ⟨henc, hframe⟩ := encodeAddressed_cases hf
    obtain ⟨build, hl⟩ := Option.isSome_iff_exists.1 (plainRows_lookup c hplain)
    obtain ⟨-, hsend⟩ := plainRows_send _ (mem_of_lookup_eq_some hl) mode (carriedAddress mode a)
    exact row_of_send (hframe ▸ decode_plainRow hl henc) hsend
  by_cases hparam : c.toNat ∈ paramOpcodes
  · rw [encodeSend_param mode a p hparam] at h
    obtain ⟨_, hf, ⟨⟩⟩ := map_ok h
    have hp : p.toNat ≤ 15 := by
      by_contra hlt
      rw [encodeParam_rejected mode a (.inr (not_le.1 hlt))] at hf
      cases hf
    rw [encodeParam_default mode a hparam hp] at hf
    obtain ⟨henc, hframe⟩ := encodeAddressed_cases hf
    obtain ⟨build, hl⟩ := Option.isSome_iff_exists.1 (paramRows_lookup c hparam)
    obtain ⟨-, hsend⟩ := paramRows_send _ (mem_of_lookup_eq_some hl) mode (carriedAddress mode a) p
    exact row_of_send (hframe ▸ decode_paramRow hl (by rw [henc, decide_eq_true hp]; rfl)) hsend
  by_cases hspecial : c.toNat ∈ specialOpcodes
  · rw [encodeSend_special mode a p hspecial] at h
    obtain ⟨_, hf, ⟨⟩⟩ := map_ok h
    obtain ⟨operand, hcarries, hframe⟩ := carried_operand hspecial hf
    obtain ⟨⟨rule, build⟩, hl⟩ := Option.isSome_iff_exists.1 (specialHeader_isSome c hspecial)
    obtain ⟨-, hrule, hsend⟩ := specialRows_send _ (mem_of_lookup_eq_some hl) operand
    obtain rfl : rule = opcodeRule c.toNat := hrule
    exact row_of_send (hframe ▸ decode_specialRow hl hcarries) hsend
  · rw [encodeSend_unknown mode a p (by simp [hplain, hparam, hspecial])] at h
    cases h

/-- A brightness of a direct arc frame that ARC sends is not clamped again. -/
theorem clampBrightness_ne : ∀ b : Byte, clampBrightness b ≠ 0xFF := by
  decide

theorem arc_frame_is_row {mode : Mode} {a b : Byte} {f : Frame} (h : encodeArc mode a b = .ok f) :
    ∃ i r, decode (.frame f) = .ok i ∧ rowRequest i = some r ∧ rowFrame i f = f := by
  unfold encodeArc at h
  split at h
  · rename_i ha
    obtain ⟨henc, hh⟩ := carriedAddress_spec ha false
    obtain rfl := Except.ok.inj h
    have hd := decode_arcFrame henc (clampBrightness b)
    rw [arcFrame, hh] at hd
    have hframe : (if frameData (mkFrame (headerByte mode a false) (clampBrightness b)) = 0xFF then
        mkFrame (frameHeader (mkFrame (headerByte mode a false) (clampBrightness b))) 0xFE
        else mkFrame (headerByte mode a false) (clampBrightness b)) =
        mkFrame (headerByte mode a false) (clampBrightness b) :=
      if_neg (by rw [frameData_mkFrame]; exact clampBrightness_ne b)
    cases mode with
    | slave => exact ⟨_, _, hd, rfl, hframe⟩
    | group => exact ⟨_, _, hd, rfl, hframe⟩
    | broadcast => exact ⟨_, _, hd, rfl, hframe⟩
  · cases h

/-- Settles O10: by the class of the opcode SEND is given, or the mode of ARC. -/
theorem dispatchedFramesAreRows : Obligations.DispatchedFramesAreRows := by
  unfold Obligations.DispatchedFramesAreRows
  exact ⟨fun _ _ _ _ _ _ => send_frame_is_row, fun _ _ _ _ => arc_frame_is_row⟩

/-! From the row to the request. -/

/-- The frame a request of the Dispatcher sends, and its transmit mode. -/
def Encodes (t : Tables) (i : Instr) (tmode : TxMode) (f : Frame) : Prop :=
  (∃ mode command address param, i = .send mode command address param ∧
    encodeSend t mode command address param = .ok (tmode, f)) ∨
  (∃ mode address brightness, i = .arc mode address brightness ∧ tmode = .simple ∧
    encodeArc mode address brightness = .ok f)

theorem encodes_of_rowSends {i r : Instr} {f : Frame} {mode : Mode} {c a p : Byte} (h : RowSends i mode c a p)
    (hr : rowRequest i = some r)
    (he : encodeSend defaultTables mode c a p = .ok (opcodeMode c.toNat, f)) :
    Encodes defaultTables r (rowMode i) (rowFrame i f) := by
  obtain ⟨hreq, hm, hf⟩ := h
  obtain rfl := Option.some.inj (hreq.symm.trans hr)
  rw [hm, hf]
  exact .inl ⟨_, _, _, _, rfl, he⟩

/-- A direct arc row sends its frame with the brightness clamped (30_encoding.md R93). -/
theorem rowFrame_arc (h b : Byte) :
    (if frameData (mkFrame h b) = 0xFF then mkFrame (frameHeader (mkFrame h b)) 0xFE else mkFrame h b) =
      mkFrame h (clampBrightness b) := by
  have hclamp : clampBrightness b = if b = 0xFF then 0xFE else b := by
    revert b; decide
  rw [frameData_mkFrame, frameHeader_mkFrame, hclamp]
  split <;> rfl

/-- The request of a well-formed frame row encodes the frame that presents the row (40_frame_codec.md
section 3). -/
theorem row_encodes {i r : Instr} {f : Frame} (hr : rowRequest i = some r) (hw : WellFormed i = true)
    (he : encode i = .frame f) : Encodes defaultTables r (rowMode i) (rowFrame i f) := by
  have hd : decode (.frame f) = .ok i := he ▸ decodeEncode i hw
  obtain ⟨mode, a, b, ha, hf, hrow⟩ | ⟨mode, a, d, ha, hf, hrow⟩ | ⟨c, d, rfl, hrow⟩ := decode_frame_cases hd
  · obtain rfl := TableWord.frame.inj hf
    have harc := encodeArc_ok (b := b) (addrOk_of_encodable ha)
    rw [← rowFrame_arc] at harc
    cases mode with
    | slave =>
      obtain rfl := Except.ok.inj hrow
      obtain rfl := Option.some.inj hr
      exact .inr ⟨_, _, _, rfl, rfl, harc⟩
    | group =>
      obtain rfl := Except.ok.inj hrow
      obtain rfl := Option.some.inj hr
      exact .inr ⟨_, _, _, rfl, rfl, harc⟩
    | broadcast =>
      obtain rfl := Except.ok.inj hrow
      obtain rfl := Option.some.inj hr
      exact .inr ⟨_, _, _, rfl, rfl, harc⟩
  · obtain rfl := TableWord.frame.inj hf
    have haddr (d : Byte) := encodeAddressed_ok (d := d) (addrOk_of_encodable ha)
    obtain ⟨build, hmem, rfl⟩ | ⟨c, p, build, hmem, hp, rfl, rfl⟩ := decodeCommand_cases hrow
    · obtain ⟨hc, hsend⟩ := plainRows_send _ hmem mode a
      exact encodes_of_rowSends hsend hr (by rw [encodeSend_plain mode a 0 hc, haddr]; rfl)
    · obtain ⟨hc, hsend⟩ := paramRows_send _ hmem mode a p
      exact encodes_of_rowSends hsend hr
        (by rw [encodeSend_param mode a p hc, encodeParam_default mode a hc hp, haddr]; rfl)
  · obtain ⟨rule, operand, build, hmem, hcarries, rfl, rfl⟩ := decodeSpecial_cases hrow
    obtain ⟨hc, hrule, hsend⟩ := specialRows_send _ hmem operand
    obtain rfl : rule = opcodeRule c.toNat := hrule
    have hop (h6 : opcodeRule c.toNat = .addr6) : operand.toNat ≤ 63 := by
      rw [h6] at hcarries
      exact of_decide_eq_true hcarries
    exact encodes_of_rowSends hsend hr (by rw [encodeSend_special _ _ _ hc, encodeSpecial_default hc hop]; rfl)

end Sys2Proof.Safety
end

section
/-! SUPPORT. Runs of an active request, and the start of a transmitting request in either variant by what its
body does (43_dispatcher.md R291, R296, R298). -/

namespace Sys2Proof.Safety

open Sys2Proof.Machine

/-! Runs. -/

/-- A run goes on from the state its first step answers. -/
theorem run_succ {M : Host.Core} {s s' : M.State} (h : M.step s = .next s') (k : Nat) :
    M.run (k + 1) s = M.run k s' := by
  simp only [Host.Core.run, h]

theorem runs_succ {s s' : State} (h : step s = .next s') (k : Nat) : runs (k + 1) s = runs k s' :=
  run_succ (M := core) h k

theorem runs_add {j : Nat} {s s' : State} (h : runs j s = .next s') (k : Nat) :
    runs (j + k) s = runs k s' := by
  induction j generalizing s with
  | zero =>
    obtain rfl : s = s' := Host.Outcome.next.inj h
    rw [Nat.zero_add]
  | succ j ih =>
    rw [Nat.add_right_comm]
    cases hs : step s with
    | next u =>
      rw [runs_succ hs] at h ⊢
      exact ih h
    | fault why =>
      have hstep : core.step s = .fault why := hs
      simp [runs, Host.Core.run, hstep] at h
    | refused why =>
      have hstep : core.step s = .refused why := hs
      simp [runs, Host.Core.run, hstep] at h

/-- An active request to which nothing is presented makes its next event. -/
theorem runs_event {s s' : State} (hp : s.port = none) (hb : s.reqBusy = true) (he : event s = .next s')
    (k : Nat) : runs (k + 1) s = runs k s' :=
  runs_succ ((step_event hp hb).trans he) k

theorem runs_last {s s' : State} (hp : s.port = none) (hb : s.reqBusy = true) (he : event s = .next s') :
    runs 1 s = .next s' :=
  runs_event hp hb he 0

/-! The guard's two variants. -/

theorem request_timerWait (job : Job) {s : State} (hb : s.reqBusy = false)
    (hv : s.params.txVariant = .timerWait) : request (withCs job) s = launch (runJob job (accept s)) := by
  rw [request_free _ _ hb, withCs_timerWait job (accept s) hv]

theorem request_busyDelay (job : Job) {s : State} (hb : s.reqBusy = false)
    (hv : s.params.txVariant = .busyDelay) :
    request (withCs job) s = .next (csEnterEvent job { accept s with ctl := .csEnter job }) := by
  rw [request_free _ _ hb, withCs_busyDelay job (accept s) hv]
  rfl

/-- The body sends an encoded frame, from every state with these parameters that is configured. -/
def BodySends (job : Job) (p : Params) (tmode : TxMode) (f : Frame) : Prop :=
  ∀ u : State, u.params = p → u.cfgValid = true → runJob job u = dispatch tmode f u

/-- The body fails, from every state with these parameters that is configured as given. -/
def BodyFails (job : Job) (p : Params) (valid : Bool) (st : Status) : Prop :=
  ∀ u : State, u.params = p → u.cfgValid = valid → runJob job u = raise st u

/-- TimerWait: the first start symbol of an encoded frame is the first event (41_line_encoder.md R235). -/
theorem request_sends_timerWait {job : Job} {tmode : TxMode} {f : Frame} {s : State} (hs : Ready s)
    (hv : s.params.txVariant = .timerWait) (hj : BodySends job s.params tmode f) :
    request (withCs job) s = .next { dispatched tmode f (firstSymbolSent f s) with dspState := .tx1 } := by
  obtain ⟨⟨hb, -, -⟩, hc, -⟩ := hs
  rw [request_timerWait job hb hv, hj (accept s) rfl hc]
  show event (transmit f _) = _
  rw [event_transmit]
  show Host.Outcome.next { writeTx .high _ with ctl := holdOf s.params.txVariant } = _
  rw [hv]
  rfl

/-- TimerWait: an error of the body answers with no event (60_exceptions.md R335). -/
theorem request_fails_timerWait {job : Job} {st : Status} {s : State} (hs : Idle s)
    (hv : s.params.txVariant = .timerWait) (hj : BodyFails job s.params s.cfgValid st) :
    request (withCs job) s = .next (failed st s) := by
  obtain ⟨hb, hcs, -⟩ := hs
  rw [request_timerWait job hb hv, hj (accept s) rfl rfl, raise_outside st (accept s) hcs]
  rfl

/-- BusyDelay: a frame is due once interrupts are disabled. -/
theorem request_sends_busyDelay {job : Job} {tmode : TxMode} {f : Frame} {s : State} (hs : Ready s)
    (hv : s.params.txVariant = .busyDelay) (hj : BodySends job s.params tmode f) :
    request (withCs job) s = .next (dispatch tmode f (intDisableSave (accept s))) := by
  obtain ⟨⟨hb, -, -⟩, hc, -⟩ := hs
  rw [request_busyDelay job hb hv, csEnterEvent,
    hj (intDisableSave { accept s with ctl := .csEnter job }) rfl hc]
  exact congrArg Host.Outcome.next (undoTokenAtExit_active _ _ (by intro r p h; cases h))

/-- BusyDelay: an error of the body closes the guard, with nothing between, and leaves the registers as they
were (60_exceptions.md R335). -/
theorem request_fails_busyDelay {job : Job} {st : Status} {s : State} (hs : Idle s)
    (hv : s.params.txVariant = .busyDelay) (hj : BodyFails job s.params s.cfgValid st) :
    ∃ t, request (withCs job) s = .next t ∧ t.trace = .intDisableSave (drawToken s.env).1 :: s.trace ∧
      t.csActive = true ∧ t.csToken = (drawToken s.env).1 ∧
      (s.port = none → runs 1 t = .next (failedInGuard st s)) := by
  obtain ⟨hb, hcs, -⟩ := hs
  have hraise := raise_inside st (intDisableSave { accept s with ctl := .csEnter job }) rfl
  refine ⟨_, request_busyDelay job hb hv, ?_⟩
  rw [csEnterEvent, hj (intDisableSave { accept s with ctl := .csEnter job }) rfl rfl, hraise,
    undoTokenAtExit_exit rfl]
  refine ⟨rfl, rfl, rfl, fun hp => ?_⟩
  have hguard : failedInGuard st s = { failedInGuard st s with csActive := false } := by
    rw [← hcs]; rfl
  rw [hguard]
  refine runs_last ?_ rfl rfl
  exact hp

/-! The bodies. -/

/-- A request of the Dispatcher that fails in the codec. -/
def Rejects (t : Tables) (i : Instr) (st : Status) : Prop :=
  (∃ mode command address param, i = .send mode command address param ∧
    encodeSend t mode command address param = .error st) ∨
  (∃ mode address brightness, i = .arc mode address brightness ∧ encodeArc mode address brightness = .error st)

theorem encodes_body {t : Tables} {i : Instr} {tmode : TxMode} {f : Frame} (h : Encodes t i tmode f) :
    ∃ job, (∀ s, exec i s = request (withCs job) s) ∧ ∀ p : Params, p.tables = t → BodySends job p tmode f := by
  obtain ⟨mode, c, a, p, rfl, he⟩ | ⟨mode, a, b, rfl, rfl, he⟩ := h
  · refine ⟨.send mode c a p, fun _ => rfl, ?_⟩
    rintro _ rfl u rfl hv
    simp only [runJob, hv, if_true, sendBody, he]
  · refine ⟨.arc mode a b, fun _ => rfl, ?_⟩
    rintro _ rfl u rfl hv
    simp only [runJob, hv, if_true, arcBody, he]

theorem rejects_body {t : Tables} {i : Instr} {st : Status} (h : Rejects t i st) :
    ∃ job, (∀ s, exec i s = request (withCs job) s) ∧ ∀ p : Params, p.tables = t → BodyFails job p true st := by
  obtain ⟨mode, c, a, p, rfl, he⟩ | ⟨mode, a, b, rfl, he⟩ := h
  · refine ⟨.send mode c a p, fun _ => rfl, ?_⟩
    rintro _ rfl u rfl hv
    simp only [runJob, hv, if_true, sendBody, he]
  · refine ⟨.arc mode a b, fun _ => rfl, ?_⟩
    rintro _ rfl u rfl hv
    simp only [runJob, hv, if_true, arcBody, he]

/-- Every body fails before SETUP (60_exceptions.md R336). -/
theorem body_notConfigured (job : Job) (p : Params) : BodyFails job p false .notConfigured := by
  intro u _ hv
  simp [runJob, hv]

/-- A frame row is a transmitting request (log 3). -/
theorem row_body {i : Instr} (h : (rowRequest i).isSome = true) : ∃ job, ∀ s, exec i s = request (withCs job) s := by
  cases i with
  | setup | arc | send | transmit | receive | classify | tmode | encArc | encCmd | encParam | encSpecial => cases h
  | _ => exact ⟨_, fun _ => rfl⟩

end Sys2Proof.Safety
end

section
/-! PROOF. The start of the transmitting requests, and their errors (43_dispatcher.md section 2; 60_exceptions.md
R334 to R336, R345). -/

namespace Sys2Proof.Safety

open Sys2Proof.Machine

/-- Settles O24: the transmitter is loaded and the first start symbol written. -/
theorem transmitStarts : Obligations.TransmitStarts := by
  unfold Obligations.TransmitStarts
  rintro value s ⟨⟨hb, -, -⟩, hc, -⟩ hv
  rw [exec_transmit_timerWait value hb hc hv]
  rfl

/-- An encoded frame of a Dispatcher request starts in the TimerWait variant. -/
theorem exec_starts {i : Instr} {tmode : TxMode} {f : Frame} {s : State} (hs : Ready s)
    (hv : s.params.txVariant = .timerWait) (h : Encodes s.params.tables i tmode f) :
    exec i s = .next { dispatched tmode f (firstSymbolSent f s) with dspState := .tx1 } := by
  obtain ⟨job, hx, hj⟩ := encodes_body h
  rw [hx, request_sends_timerWait hs hv (hj s.params rfl)]

/-- A Dispatcher request that fails in the codec answers at once in the TimerWait variant. -/
theorem exec_fails {i : Instr} {st : Status} {s : State} (hs : Ready s)
    (hv : s.params.txVariant = .timerWait) (h : Rejects s.params.tables i st) :
    exec i s = .next (failed st s) := by
  obtain ⟨hidle, hc, -⟩ := hs
  obtain ⟨job, hx, hj⟩ := rejects_body h
  rw [hx, request_fails_timerWait hidle hv (hc ▸ hj s.params rfl)]

/-- Settles O25: ARC encodes in range and fails out of range. -/
theorem arcStartsOrFails : Obligations.ArcStartsOrFails := by
  unfold Obligations.ArcStartsOrFails
  intro mode address brightness s hs hv
  exact ⟨fun ha => exec_starts hs hv (.inr ⟨_, _, _, rfl, rfl, encodeArc_inRange brightness ha⟩),
    fun ha => exec_fails hs hv (.inr ⟨_, _, _, rfl, encodeArc_outOfRange brightness ha⟩)⟩

/-- Settles O26: by what the codec gives for the command. -/
theorem sendStartsOrFails : Obligations.SendStartsOrFails := by
  unfold Obligations.SendStartsOrFails
  intro mode command address param s hs hv
  exact ⟨fun st h => exec_fails hs hv (.inl ⟨_, _, _, _, rfl, h⟩),
    fun tmode f h => exec_starts hs hv (.inl ⟨_, _, _, _, rfl, h⟩)⟩

/-- Settles O27: the first check that fails names the error. -/
theorem sendErrorOrder : Obligations.SendErrorOrder := by
  unfold Obligations.SendErrorOrder
  intro mode command address param s hs hv htables c
  have fails {st : Status} (h : encodeSend defaultTables mode command address param = .error st) :
      exec (.send mode command address param) s = .next (failed st s) :=
    exec_fails hs hv (.inl ⟨_, _, _, _, rfl, htables ▸ h⟩)
  refine ⟨fun hc => ?_, fun hc hp => ?_, fun hc ha => ?_, fun hc hp => ?_⟩
  · exact fails (encodeSend_unknown _ _ _ hc)
  · exact fails (by rw [encodeSend_param _ _ _ hc, encodeParam_rejected _ _ (.inr hp)]; rfl)
  · obtain hc | ⟨hc, hp⟩ := hc
    · exact fails (by rw [encodeSend_plain _ _ _ hc, encodeAddressed_outOfRange _ ha]; rfl)
    · exact fails (by
        rw [encodeSend_param _ _ _ hc, encodeParam_default _ _ hc hp, encodeAddressed_outOfRange _ ha]; rfl)
  · exact fails (by
      rw [encodeSend_special _ _ _ (mem_specialOpcodes.2 (.inr (.inr hc))),
        encodeSpecial_default_wrongAddress hc hp]
      rfl)

/-- Settles O28: the row's request encodes the frame that presents the row. -/
theorem frameRowsStart : Obligations.FrameRowsStart := by
  unfold Obligations.FrameRowsStart
  intro i r f s hr hw he hs hv htables
  rw [rowsAreRequests i r s hr]
  exact exec_starts hs hv (htables ▸ row_encodes hr hw he)

/-- Settles O41: the codec fails after interrupts are disabled and before any pin write. -/
theorem guardClosesOnErrors : Obligations.GuardClosesOnErrors := by
  unfold Obligations.GuardClosesOnErrors
  rintro i st s ⟨hidle, hc, -⟩ hv hp h
  obtain ⟨job, hx, hj⟩ := rejects_body h
  obtain ⟨t, ht, -, hcs, htoken, hrun⟩ := request_fails_busyDelay hidle hv (hc ▸ hj s.params rfl)
  exact ⟨t, (hx s).trans ht, hcs, htoken, hrun hp⟩

/-- Settles O23: RECEIVE checks the configuration itself, the bodies of the others check it first. -/
theorem notConfiguredBeforeSetup : Obligations.NotConfiguredBeforeSetup := by
  unfold Obligations.NotConfiguredBeforeSetup
  intro s hidle hc
  obtain ⟨hb, -, -⟩ := id hidle
  have hreceive : receiveBody (accept s) = respond (errResponse .notConfigured) (accept s) := by
    simp [receiveBody, hc]
  refine ⟨?_, fun i hi => ?_⟩
  · show request receiveBody s = _
    rw [request_answered _ _ hb (by rw [hreceive]; rfl), hreceive]
    rfl
  · have hbody : ∃ job, ∀ s, exec i s = request (withCs job) s := by
      obtain ⟨v, rfl⟩ | ⟨m, a, b, rfl⟩ | ⟨m, c, a, p, rfl⟩ | hrow := hi
      · exact ⟨_, fun _ => rfl⟩
      · exact ⟨_, fun _ => rfl⟩
      · exact ⟨_, fun _ => rfl⟩
      · exact row_body hrow
    obtain ⟨job, hx⟩ := hbody
    have hj : BodyFails job s.params s.cfgValid .notConfigured := hc ▸ body_notConfigured job s.params
    refine ⟨fun hv => (hx s).trans (request_fails_timerWait hidle hv hj), fun hv => ?_⟩
    obtain ⟨t, ht, htrace, -, -, hrun⟩ := request_fails_busyDelay hidle hv hj
    exact ⟨t, (hx s).trans ht, htrace, hrun⟩

/-- Settles O19: the checks are the legal ranges, and each pin event is one step. -/
theorem setupConfiguresOrRejects : Obligations.SetupConfiguresOrRejects := by
  unfold Obligations.SetupConfiguresOrRejects
  intro baud txbits rxbits stop txpin rxpin s hb legal
  have hx : exec (.setup baud txbits rxbits stop txpin rxpin) s =
      launch (setupBody baud txbits rxbits stop txpin rxpin (accept s)) := request_free _ s hb
  rw [hx, setupBody]
  refine ⟨fun hl => ?_, fun hl => ?_⟩
  · have hlegal : setupLegal (accept s).params.numPins baud txbits rxbits stop txpin rxpin = true :=
      (setupLegal_iff _ _ _ _ _ _ _).2 hl
    rw [if_pos hlegal]
    refine ⟨_, rfl, rfl, fun hp => (runs_event ?_ rfl rfl 1).trans (runs_last ?_ rfl rfl)⟩
    · exact hp
    · exact hp
  · have hillegal : ¬ setupLegal (accept s).params.numPins baud txbits rxbits stop txpin rxpin = true :=
      mt (setupLegal_iff _ _ _ _ _ _ _).1 hl
    rw [if_neg hillegal]
    rfl

end Sys2Proof.Safety
end

section
/-! PROOF. The symbol wait (41_line_encoder.md section 4): one poll by its three results, a timer that stands
still, and a target the timer never reaches. -/

namespace Sys2Proof.Safety

open Sys2Proof.Machine

theorem mask31_toNat (raw : Word32) : (mask31 raw).toNat = raw.toNat % 2 ^ 31 := by
  rw [mask31, BitVec.toNat_setWidth]

/-- A timer answer that is already fixed is read and used up (log 1). -/
theorem readNow_fixed {s : State} {w : Word32} {rest : List Word32} (h : s.env.nows = w :: rest) :
    readNow s = (mask31 w, { s with
      env := { s.env with nows := rest, drawn := s.env.drawn + 1 }, trace := .now w :: s.trace }) := by
  rw [readNow, drawNow_fixed w rest s.env h]
  rfl

/-- A pin answer that is already fixed is read and used up (log 1). -/
theorem readRxPin_fixed {s : State} {l : Level} {rest : List Level} (h : s.env.pins = l :: rest) :
    readRxPin s = (l, { s with
      env := { s.env with pins := rest, drawn := s.env.drawn + 1 }, trace := .readPin s.cfgRxpin l :: s.trace }) := by
  rw [readRxPin, drawPin_fixed l rest s.env h]
  rfl

theorem event_txPoll {s : State} (hc : s.ctl = .txPoll) : event s = .next (txPollEvent s) := by
  simp only [event, hc]

theorem event_txPoll_wrapped {s : State} (hc : s.ctl = .txPoll)
    (h : (drawNow s.env).1.toNat % 2 ^ 31 < s.txWstart.toNat) : event s = .next (attemptFailed (readNow s).2) := by
  rw [event_txPoll hc, txPollEvent, readNow_value, waitPoll_wrapped ((mask31_toNat _).symm ▸ h)]

theorem event_txPoll_elapsed {s : State} (hs : Coherent s) (hc : s.ctl = .txPoll)
    (h : s.txWstart.toNat + s.txHb.toNat ≤ (drawNow s.env).1.toNat % 2 ^ 31) :
    event s = .next (symbolDone (readNow s).2) := by
  obtain ⟨-, -, hle⟩ := (hs.attempting (by rw [hc]; rfl)).txHb
  rw [event_txPoll hc, txPollEvent, readNow_value, waitPoll_elapsed hle ((mask31_toNat _).symm ▸ h)]

theorem event_txPoll_waiting {s : State} (hs : Coherent s) (hc : s.ctl = .txPoll)
    (h0 : s.txWstart.toNat ≤ (drawNow s.env).1.toNat % 2 ^ 31)
    (h : (drawNow s.env).1.toNat % 2 ^ 31 < s.txWstart.toNat + s.txHb.toNat) : event s = .next (readNow s).2 := by
  obtain ⟨-, -, hle⟩ := (hs.attempting (by rw [hc]; rfl)).txHb
  rw [event_txPoll hc, txPollEvent, readNow_value,
    waitPoll_waiting hle ((mask31_toNat _).symm ▸ h0) ((mask31_toNat _).symm ▸ h)]

theorem symbolDone_next {s : State} (h : s.txSym.toNat + 1 < s.txNsym.toNat) :
    symbolDone s = { s with
      txSym := s.txSym + 1, txState := txPhase s.cfgTxbits.toNat (s.txSym.toNat + 1), ctl := .txWrite } :=
  if_pos h

theorem symbolDone_last {s : State} (h : ¬ s.txSym.toNat + 1 < s.txNsym.toNat) :
    symbolDone s = { s with txState := .settle, ctl := .txSettle } :=
  if_neg h

/-- Settles O31: by the result of the poll, and by the bound of the retries or the place in the sequence. -/
theorem symbolPoll : Obligations.SymbolPoll := by
  unfold Obligations.SymbolPoll
  intro s hs hc t polled
  have hcs := (hs.attempting (by rw [hc]; rfl)).csInactive (hs.tx.timerWait (.inr hc))
  refine ⟨fun hw hmax => ?_, fun hw hmax => ?_, fun he hi => ?_, fun he hi => ?_, fun h0 h => ?_⟩
  · have hspent : retriesSpent (readNow s).2 = true := by simp [retriesSpent, hmax]
    rw [event_txPoll_wrapped hc hw, attemptFailed, if_pos hspent,
      raise_outside _ { (readNow s).2 with txState := .idle } hcs]
    rfl
  · have hspent : ¬ retriesSpent (readNow s).2 = true := by simpa [retriesSpent] using hmax
    rw [event_txPoll_wrapped hc hw, attemptFailed, if_neg hspent]
    rfl
  · rw [event_txPoll_elapsed hs hc he, symbolDone_next (s := (readNow s).2) hi]
    rfl
  · have hlast : ¬ s.txSym.toNat + 1 < s.txNsym.toNat := by omega
    rw [event_txPoll_elapsed hs hc he, symbolDone_last (s := (readNow s).2) hlast]
    rfl
  · exact event_txPoll_waiting hs hc h0 h

/-- Settles O33: by induction on the polls; each reads the start value again and waits. -/
theorem stuckTimerNeverEndsTheWait : Obligations.StuckTimerNeverEndsTheWait := by
  unfold Obligations.StuckTimerNeverEndsTheWait
  intro s k w rest hs hc hp hnows hw
  induction k generalizing s with
  | zero =>
    obtain rfl : s.env.nows = rest := hnows
    rfl
  | succ k ih =>
    have hdraw := drawNow_fixed w (List.replicate k w ++ rest) s.env hnows
    have hpoll : event s = .next (readNow s).2 := by
      obtain ⟨-, hpos, -⟩ := (hs.attempting (by rw [hc]; rfl)).txHb
      have ht : (drawNow s.env).1.toNat % 2 ^ 31 = s.txWstart.toNat := by rw [hdraw, ← mask31_toNat, hw]
      exact event_txPoll_waiting hs hc ht.ge (by omega)
    have hread := congrArg Prod.snd (readNow_fixed (s := s) hnows)
    rw [runs_event hp (hs.busy.2 (by rw [hc]; exact nofun)) hpoll, hread]
    rw [hread] at hpoll
    rw [ih _ (event_keeps_coherent hs hpoll) hc hp rfl hw, Nat.add_right_comm s.env.drawn 1 k,
      List.replicate_succ', List.append_assoc]
    rfl

/-- Settles O34: a value of 31 bits stays below the target, so a poll wraps or waits. -/
theorem unreachableTargetEndsOnlyByWrap : Obligations.UnreachableTargetEndsOnlyByWrap := by
  unfold Obligations.UnreachableTargetEndsOnlyByWrap
  intro s t hs hc htarget he
  by_cases hw : (drawNow s.env).1.toNat % 2 ^ 31 < s.txWstart.toNat
  · exact .inl hw
  · have hwait := event_txPoll_waiting hs hc (not_lt.1 hw) (by omega)
    obtain rfl := Host.Outcome.next.inj (hwait.symm.trans he)
    exact .inr ⟨hc, rfl, rfl⟩

end Sys2Proof.Safety
end

section
/-! PROOF. The Line Receiver, event by event (42_line_receiver.md R261 to R271). -/

namespace Sys2Proof.Safety

open Sys2Proof.Machine

/-- Settles O42: RECEIVE's body is due to read the call time, which is its first event. -/
theorem receiveStarts : Obligations.ReceiveStarts := by
  unfold Obligations.ReceiveStarts
  rintro s ⟨⟨hb, -, -⟩, hc, -⟩
  have hbody : receiveBody (accept s) = { accept s with ctl := .rxCall } := if_pos hc
  show request receiveBody s = _
  rw [request_active _ _ hb (by rw [hbody]; rfl), hbody]
  rfl

theorem rxTimedOut_iff {tcall t : Time31} {timeoutUs : Nat} :
    rxTimedOut tcall t timeoutUs = true ↔ t.toNat < tcall.toNat ∨ tcall.toNat + timeoutUs ≤ t.toNat := by
  simp only [rxTimedOut, Bool.or_eq_true, decide_eq_true_eq]
  omega

/-- Settles O43: by the timeout test of the poll. -/
theorem edgeWaitTimeout : Obligations.EdgeWaitTimeout := by
  unfold Obligations.EdgeWaitTimeout
  intro s hc t polled
  have hevent : event s = .next (rxPollEvent s) := by simp only [event, hc]
  have hout : rxTimedOut s.rxTcall (readNow s).1 s.params.rxTimeoutUs = true ↔
      t < s.rxTcall.toNat ∨ s.rxTcall.toNat + s.params.rxTimeoutUs ≤ t := by
    rw [rxTimedOut_iff, readNow_value, mask31_toNat]
  refine ⟨fun h => ?_, fun h h' => ?_⟩
  · rw [hevent, rxPollEvent, if_pos (hout.2 h)]
    rfl
  · rw [hevent, rxPollEvent, if_neg (mt hout.1 (by omega))]
    rfl

/-- Settles O44: the edge is a Low read after a High. -/
theorem fallingEdgeStartsTheWindows : Obligations.FallingEdgeStartsTheWindows := by
  unfold Obligations.FallingEdgeStartsTheWindows
  intro s t hs hc l read
  have hevent : event s = .next (rxEdgeEvent t s) := by simp only [event, hc]
  obtain ⟨⟨hconfig, -⟩, -, hv, -⟩ := hs.receiving (.inr (.inl (by rw [hc]; rfl)))
  obtain ⟨-, -, hbits, -⟩ := (configLegal_iff s).1 hconfig hv
  refine ⟨fun hprev hl => ?_, fun h => ?_⟩
  · have hfall : fallingEdge s.rxPrev (readRxPin s).1 = true := by
      rw [readRxPin_value, hprev, show (drawPin s.env).1 = .low from hl]; rfl
    have hphase : rxPhase s.cfgRxbits.toNat 0 = .sample := if_pos (by omega)
    rw [hevent, rxEdgeEvent, if_pos hfall, enterWindow]
    show Host.Outcome.next { read with
      rxTedge := t, rxShift := 0, rxK := 0, rxState := rxPhase s.cfgRxbits.toNat 0, ctl := .rxWaitA } = _
    rw [hphase]
  · have hfall : ¬ fallingEdge s.rxPrev (readRxPin s).1 = true := by
      rw [readRxPin_value]
      obtain h | h := h
      · simp [fallingEdge, h]
      · simp [fallingEdge, show (drawPin s.env).1 = .high from h]
    rw [hevent, rxEdgeEvent, if_neg hfall]
    rfl

/-! Samples. -/

theorem samplePoll_wrapped {tedge t : Time31} {due : Word32} (h : t.toNat < tedge.toNat) :
    samplePoll tedge due t = .wrapped :=
  if_pos h

theorem samplePoll_elapsed {tedge t : Time31} {due : Word32} (h : tedge.toNat ≤ t.toNat)
    (hd : due.toNat ≤ t.toNat) : samplePoll tedge due t = .elapsed := by
  rw [samplePoll, if_neg (not_lt.2 h), if_pos hd]

theorem samplePoll_waiting {tedge t : Time31} {due : Word32} (h : tedge.toNat ≤ t.toNat)
    (hd : t.toNat < due.toNat) : samplePoll tedge due t = .waiting := by
  rw [samplePoll, if_neg (not_lt.2 h), if_neg (not_le.2 hd)]

/-- The time a sample is due, where the 32-bit sum does not wrap (42_line_receiver.md R264, R265; log 18). -/
theorem sampleTime_toNat {tedge : Time31} {lead k hb q : Nat}
    (h : tedge.toNat + (lead + k) * hb + q * hb / 4 < 2 ^ 32) :
    (sampleTime tedge lead k hb q).toNat = tedge.toNat + (lead + k) * hb + q * hb / 4 := by
  have htedge := tedge.isLt
  rw [sampleTime, BitVec.toNat_add, BitVec.toNat_setWidth, BitVec.toNat_ofNat]
  omega

theorem sampleDue_toNat {s : State} {q : Nat} (hconfig : ConfigLegal s) (hv : s.cfgValid = true)
    (h : s.rxTedge.toNat + (s.params.rxLead + s.rxK.toNat) * (500000 / s.cfgBaud.toNat) +
      q * (500000 / s.cfgBaud.toNat) / 4 < 2 ^ 32) :
    (sampleDue q s).toNat = s.rxTedge.toNat + (s.params.rxLead + s.rxK.toNat) * (500000 / s.cfgBaud.toNat) +
      q * (500000 / s.cfgBaud.toNat) / 4 := by
  obtain ⟨hhb, -⟩ := halfBit_legal hconfig hv
  rw [sampleDue, hhb]
  exact sampleTime_toNat h

/-- A timer read of `SampleAt`, by its three results. -/
theorem rxWaitEvent_polls {q : Nat} {wrapped : State → State} {ready : Ctl} {s : State} :
    ((drawNow s.env).1.toNat % 2 ^ 31 < s.rxTedge.toNat → rxWaitEvent q wrapped ready s = wrapped (readNow s).2) ∧
    (s.rxTedge.toNat ≤ (drawNow s.env).1.toNat % 2 ^ 31 →
      (sampleDue q s).toNat ≤ (drawNow s.env).1.toNat % 2 ^ 31 →
      rxWaitEvent q wrapped ready s = { (readNow s).2 with ctl := ready }) ∧
    (s.rxTedge.toNat ≤ (drawNow s.env).1.toNat % 2 ^ 31 →
      (drawNow s.env).1.toNat % 2 ^ 31 < (sampleDue q s).toNat →
      rxWaitEvent q wrapped ready s = (readNow s).2) := by
  simp only [← mask31_toNat]
  refine ⟨fun h => ?_, fun h hd => ?_, fun h hd => ?_⟩
  · rw [rxWaitEvent, readNow_value, samplePoll_wrapped h]
  · rw [rxWaitEvent, readNow_value, samplePoll_elapsed h hd]
  · rw [rxWaitEvent, readNow_value, samplePoll_waiting h hd]

/-- Settles O45: by the result of the timer read at each of the two sample points. -/
theorem samplePoint : Obligations.SamplePoint := by
  unfold Obligations.SamplePoint
  intro s hs hb window t polled
  have due {q : Nat} (hc : sampling s.ctl = true) (h : window + q * hb / 4 < 2 ^ 32) :
      (sampleDue q s).toNat = window + q * hb / 4 := by
    obtain ⟨⟨hconfig, -⟩, -, hv, -⟩ := hs.receiving (.inr (.inr hc))
    exact sampleDue_toNat hconfig hv h
  refine ⟨fun hc h => ?_, fun a hc h => ?_⟩
  · have hevent : event s = .next (rxWaitAEvent s) := by simp only [event, hc]
    have hdue : (sampleDue 1 s).toNat = window + hb / 4 := by
      rw [due (by rw [hc]; rfl) (by rwa [one_mul]), one_mul]
    obtain ⟨hwrapped, helapsed, hwaiting⟩ := rxWaitEvent_polls (q := 1) (s := s) (ready := .rxReadA)
      (wrapped := fun u => { u with ctl := .rxWaitB none })
    rw [hdue] at helapsed hwaiting
    rw [hevent, rxWaitAEvent]
    exact ⟨fun h => by rw [hwrapped h]; rfl, fun h hd => by rw [helapsed h hd]; rfl,
      fun h hd => by rw [hwaiting h hd]; rfl⟩
  · have hevent : event s = .next (rxWaitBEvent a s) := by simp only [event, hc]
    have hdue := due (q := 3) (by rw [hc]; rfl) h
    obtain ⟨hwrapped, helapsed, hwaiting⟩ := rxWaitEvent_polls (q := 3) (s := s) (ready := .rxReadB a)
      (wrapped := receiveTimeout)
    rw [hdue] at helapsed hwaiting
    rw [hevent, rxWaitBEvent]
    exact ⟨fun h => by rw [hwrapped h]; rfl, fun h hd => by rw [helapsed h hd]; rfl,
      fun h hd => by rw [hwaiting h hd]; rfl⟩

/-! Windows. -/

theorem nextWindow_more {s : State} (h : s.rxK.toNat + 1 < windowCount s.cfgRxbits.toNat s.cfgStop.toNat)
    (hk : s.rxK.toNat ≤ 35) : nextWindow s =
      { s with rxK := s.rxK + 1, rxState := rxPhase s.cfgRxbits.toNat (s.rxK.toNat + 1), ctl := .rxWaitA } := by
  rw [nextWindow, if_pos h, enterWindow, index_succ_toNat (by omega)]

theorem nextWindow_last {s : State} (h : s.rxK.toNat + 1 = windowCount s.cfgRxbits.toNat s.cfgStop.toNat) :
    nextWindow s = receiveDone s :=
  if_neg (by omega)

/-- A shift register whose bits all stand in the used symbols is its used symbols. -/
theorem usedSymbols_eq {shift : Word32} {rxbits : Nat} (h : shift.toNat < 2 ^ (2 * rxbits)) :
    usedSymbols shift rxbits = shift := by
  rw [usedSymbols, Nat.mod_eq_of_lt h, BitVec.ofNat_toNat, BitVec.setWidth_eq]

theorem receiveDone_used {s : State} (h : s.rxShift.toNat < 2 ^ (2 * s.cfgRxbits.toNat)) :
    receiveDone s = respond (okResponse (Config.rxDecode s.rxShift s.cfgRxbits.toNat)) { s with rxState := .idle } := by
  rw [receiveDone, usedSymbols_eq h]

theorem shiftSymbol_eq {shift : Word32} (l : Level) (h : shift.toNat < 2 ^ 31) :
    shiftSymbol shift l = BitVec.ofNat 32 (2 * shift.toNat + (if l = .high then 1 else 0)) := by
  rw [← shiftSymbol_toNat l h, BitVec.ofNat_toNat, BitVec.setWidth_eq]

/-- A data window whose samples agree shifts its level in (42_line_receiver.md R267). -/
theorem windowDone_data {s : State} (a : Level) (h : s.rxK.toNat < 2 * s.cfgRxbits.toNat) :
    windowDone a a s = nextWindow { s with rxShift := shiftSymbol s.rxShift a } := by
  rw [windowDone, if_neg (not_not.2 rfl), if_pos h]

/-- A stop window whose samples are High is accepted (42_line_receiver.md R268). -/
theorem windowDone_stop {s : State} (h : 2 * s.cfgRxbits.toNat ≤ s.rxK.toNat) :
    windowDone .high .high s = nextWindow s := by
  rw [windowDone, if_neg (not_not.2 rfl), if_neg (not_lt.2 h), if_pos rfl]

/-- A glitch, or a Low stop window, restarts the edge wait (42_line_receiver.md R266, R268). -/
theorem windowDone_restart {s : State} {a b : Level}
    (h : a ≠ b ∨ a = .low ∧ 2 * s.cfgRxbits.toNat ≤ s.rxK.toNat) : windowDone a b s = edgeWait s := by
  unfold windowDone
  split
  · rfl
  · rename_i hab
    obtain ⟨rfl, hk⟩ := h.resolve_left hab
    rw [if_neg (not_lt.2 hk), if_neg nofun]

/-- Settles O46: by the two samples and the place of the window. -/
theorem windowJudged : Obligations.WindowJudged := by
  unfold Obligations.WindowJudged
  intro s hs b n w read
  refine ⟨fun hc => by simp only [event, hc]; rfl, fun a hc => ?_⟩
  have hevent : event s = .next (windowDone a b read) := by simp only [event, hc]; rfl
  have hsampling : sampling s.ctl = true := by rw [hc]; rfl
  have hk := hs.rx.bounds
  obtain ⟨⟨hconfig, -⟩, -, hv, -⟩ := hs.receiving (.inr (.inr hsampling))
  obtain ⟨-, -, hbits, hstop, -⟩ := (configLegal_iff s).1 hconfig hv
  have hused := hs.rx.used hsampling
  rw [hevent]
  refine ⟨fun h => ?_, fun hab hdata => ?_, fun hab ha hn hw => ?_, fun hab ha hn hw => ?_⟩
  · rw [windowDone_restart (s := read) h]
    rfl
  · rw [Nat.min_eq_left hdata.le] at hused
    have hpow : 2 ^ s.rxK.toNat ≤ 2 ^ 31 := Nat.pow_le_pow_right (by decide) (by omega)
    have hlt : s.rxShift.toNat < 2 ^ 31 := by omega
    have hmore : s.rxK.toNat + 1 < windowCount s.cfgRxbits.toNat s.cfgStop.toNat := by
      unfold windowCount; omega
    rw [← hab, windowDone_data (s := read) a hdata,
      nextWindow_more (s := { read with rxShift := shiftSymbol read.rxShift a }) hmore hk,
      shiftSymbol_eq a (shift := read.rxShift) hlt]
    rfl
  · have hphase : rxPhase s.cfgRxbits.toNat (s.rxK.toNat + 1) = .stopCheck := if_neg (by omega)
    rw [← hab, ha, windowDone_stop (s := read) hn, nextWindow_more (s := read) hw hk]
    show Host.Outcome.next { read with
      rxK := s.rxK + 1, rxState := rxPhase s.cfgRxbits.toNat (s.rxK.toNat + 1), ctl := .rxWaitA } = _
    rw [hphase]
  · rw [Nat.min_eq_right hn] at hused
    rw [← hab, ha, windowDone_stop (s := read) hn, nextWindow_last (s := read) hw, receiveDone_used (s := read) hused]
    rfl

end Sys2Proof.Safety
end

section
/-! SUPPORT. A whole attempt of `Transmit` (41_line_encoder.md section 5): symbol after symbol in either variant,
up to the settle and the return to the caller. -/

namespace Sys2Proof.Safety

open Sys2Proof.Machine

/-! One symbol. -/

/-- The levels still to be written stand in the sequence from the symbol that is due; the last is High. -/
structure AtSymbol (levels : List Level) (s : State) : Prop where
  port : s.port = none
  busy : s.reqBusy = true
  place : s.ctl = .txWrite
  left : s.txSeq.drop s.txSym.toNat = levels
  count : s.txNsym.toNat = s.txSeq.length
  bound : s.txSeq.length ≤ 38
  last : levels.getLast? = some .high

/-- A symbol has been written and held: the line, the timer's registers and answers, and the events made. -/
def held (l : Level) (w : Time31) (env : Env) (events : List Event) (s : State) : State :=
  { s with txLine := some l, txWstart := w, env := env, trace := events.reverse ++ s.trace }

/-- The attempt has written its last symbol, and the settle is due. -/
def settling (w : Time31) (env : Env) (events : List Event) (s : State) : State :=
  { held .high w env events s with
    txSym := BitVec.ofNat 6 (s.txNsym.toNat - 1), txState := .settle, ctl := .txSettle }

/-- The symbols after one that has been held complete the attempt it began. -/
theorem settling_next (l : Level) (w w' : Time31) (env env' : Env) (events events' : List Event) (i : BitVec 6)
    (phase : TxState) (s : State) :
    settling w' env' events' { held l w env events s with txSym := i, txState := phase, ctl := .txWrite } =
      settling w' env' (events ++ events') s := by
  simp only [settling, held, List.reverse_append, List.append_assoc]

theorem AtSymbol.event {l : Level} {rest : List Level} {s : State} (h : AtSymbol (l :: rest) s) :
    event s = .next { writeTx l s with ctl := holdOf s.params.txVariant } := by
  have hl : s.txSeq[s.txSym.toNat]? = some l := by
    have hhead := congrArg (·[0]?) h.left
    simpa using hhead
  have hevent : Machine.event s = txWriteEvent s := by simp only [Machine.event, h.place]
  rw [hevent, txWriteEvent_of_getElem? s hl]

/-- How many symbols are left. -/
theorem AtSymbol.length {levels : List Level} {s : State} (h : AtSymbol levels s) :
    s.txNsym.toNat - s.txSym.toNat = levels.length := by
  rw [h.count, ← h.left, List.length_drop]

/-- After the last symbol the settle is due. -/
theorem AtSymbol.done_last {l : Level} {s : State} (h : AtSymbol [l] s) (w : Time31) (env : Env)
    (events : List Event) : symbolDone (held l w env events s) = settling w env events s := by
  have hlen : s.txNsym.toNat - s.txSym.toNat = 1 := h.length
  have hindex : BitVec.ofNat 6 (s.txNsym.toNat - 1) = s.txSym := by
    rw [show s.txNsym.toNat - 1 = s.txSym.toNat by omega, BitVec.ofNat_toNat, BitVec.setWidth_eq]
  obtain rfl : l = .high := Option.some.inj h.last
  have hlast : ¬ s.txSym.toNat + 1 < s.txNsym.toNat := by omega
  rw [symbolDone_last (s := held .high w env events s) hlast, settling, hindex]
  rfl

/-- After a symbol that is not the last, the next one is due. -/
theorem AtSymbol.done_next {l l' : Level} {rest : List Level} {s : State} (h : AtSymbol (l :: l' :: rest) s)
    (w : Time31) (env : Env) (events : List Event) :
    symbolDone (held l w env events s) = { held l w env events s with
      txSym := s.txSym + 1, txState := txPhase s.cfgTxbits.toNat (s.txSym.toNat + 1), ctl := .txWrite } ∧
    AtSymbol (l' :: rest) (symbolDone (held l w env events s)) := by
  have hlen : s.txNsym.toNat - s.txSym.toNat = rest.length + 2 := h.length
  have hmore : s.txSym.toNat + 1 < s.txNsym.toNat := by omega
  have hbound := h.bound
  have hcount := h.count
  have hstate := symbolDone_next (s := held l w env events s) hmore
  refine ⟨hstate, ?_⟩
  rw [hstate]
  refine ⟨h.port, h.busy, rfl, ?_, hcount, hbound, by simpa using h.last⟩
  show s.txSeq.drop (s.txSym + 1).toNat = l' :: rest
  rw [index_succ_toNat (by omega), ← List.tail_drop, h.left, List.tail_cons]

/-! The BusyDelay variant. -/

/-- The events of the symbols of one transmission in the BusyDelay variant (41_line_encoder.md R234). -/
def busySymbols (s : State) (hb : Nat) (levels : List Level) : List Event :=
  (levels.map fun l => [Event.writePin s.cfgTxpin (pinLevel s.params.txInvert l), .delayUs hb]).flatten

theorem busyAttempt_eq (s : State) (hb : Nat) (levels : List Level) :
    busyAttempt s hb levels = busySymbols s hb levels ++ [.delayUs (6 * hb)] := rfl

/-- A symbol is written and held with `DelayUs` (41_line_encoder.md R234). -/
theorem runs_busySymbol {l : Level} {rest : List Level} {s : State} (h : AtSymbol (l :: rest) s)
    (hv : s.params.txVariant = .busyDelay) :
    runs 2 s = .next (symbolDone (held l s.txWstart s.env (busySymbols s s.txHb.toNat [l]) s)) := by
  have hwrite := h.event
  rw [hv] at hwrite
  rw [runs_event h.port h.busy hwrite]
  refine runs_last ?_ ?_ rfl
  · exact h.port
  · exact h.busy

theorem runs_busySymbols {levels : List Level} {s : State} (h : AtSymbol levels s)
    (hv : s.params.txVariant = .busyDelay) :
    runs (busySymbols s s.txHb.toNat levels).length s =
      .next (settling s.txWstart s.env (busySymbols s s.txHb.toNat levels) s) := by
  induction levels generalizing s with
  | nil => cases h.last
  | cons l rest ih =>
    have hround := runs_busySymbol h hv
    cases rest with
    | nil =>
      rw [h.done_last] at hround
      exact hround
    | cons l' rest =>
      obtain ⟨hstate, hnext⟩ := h.done_next s.txWstart s.env (busySymbols s s.txHb.toNat [l])
      have hrest := ih hnext (by rw [hstate]; exact hv)
      rw [hstate] at hround hrest
      have hevents : busySymbols s s.txHb.toNat (l :: l' :: rest) =
          busySymbols s s.txHb.toNat [l] ++ busySymbols s s.txHb.toNat (l' :: rest) := rfl
      rw [hevents, List.length_append, show (busySymbols s s.txHb.toNat [l]).length = 2 from rfl,
        runs_add hround]
      exact hrest.trans (congrArg Host.Outcome.next (settling_next _ _ _ _ _ _ _ _ _ _))

/-! The TimerWait variant under the ideal timer. -/

/-- The events of the symbols of one transmission under the ideal timer (95_test_vectors.md section 0). -/
def idealSymbols (s : State) (hb : Nat) (times : List Nat) (levels : List Level) : List Event :=
  (List.zipWith (idealSymbol s hb) times levels).flatten

theorem idealAttempt_eq (s : State) (hb : Nat) (times : List Nat) (levels : List Level) :
    idealAttempt s hb times levels = idealSymbols s hb times levels ++ [.delayUs (6 * hb)] := rfl

theorem idealSymbols_length (s : State) (hb : Nat) {times : List Nat} {levels : List Level}
    (h : times.length = levels.length) : (idealSymbols s hb times levels).length = 3 * times.length := by
  induction times generalizing levels with
  | nil => rfl
  | cons t times ih =>
    cases levels with
    | nil => cases h
    | cons l levels =>
      have hrest := ih (Nat.succ.inj h)
      rw [idealSymbols, List.zipWith_cons_cons, List.flatten_cons, List.length_append]
      rw [idealSymbols] at hrest
      rw [hrest, List.length_cons]
      show 3 + _ = _
      omega

/-- The environment after two timer answers. -/
def envAfterWait (rest : List Word32) (env : Env) : Env := { env with nows := rest, drawn := env.drawn + 2 }

theorem mask31_ofNat (n : Nat) : mask31 (BitVec.ofNat 32 n) = BitVec.ofNat 31 n := by
  apply BitVec.eq_of_toNat_eq
  rw [mask31_toNat, BitVec.toNat_ofNat, BitVec.toNat_ofNat]
  omega

theorem event_txStart_fixed {s : State} {w : Word32} {rest : List Word32} (hc : s.ctl = .txStart)
    (hn : s.env.nows = w :: rest) :
    event s = .next { s with
      ctl := .txPoll, txWstart := mask31 w, env := { s.env with nows := rest, drawn := s.env.drawn + 1 }
      trace := .now w :: s.trace } := by
  have hevent : event s = .next (txStartEvent s) := by simp only [event, hc]
  rw [hevent, txStartEvent, readNow_fixed hn]

/-- A poll that ends the wait. -/
theorem event_txPoll_fixed {s : State} {w : Word32} {rest : List Word32} (hc : s.ctl = .txPoll)
    (hn : s.env.nows = w :: rest) (hp : waitPoll s.txWstart s.txHb (mask31 w) = .elapsed) :
    event s = .next (symbolDone { s with
      env := { s.env with nows := rest, drawn := s.env.drawn + 1 }, trace := .now w :: s.trace }) := by
  rw [event_txPoll hc, txPollEvent, readNow_fixed hn]
  simp only [hp]

/-- A symbol has been written and the start read of its wait made; these timer answers are left. -/
def polling (l : Level) (t : Nat) (nows : List Word32) (s : State) : State :=
  { s with
    txLine := some l, ctl := .txPoll, txWstart := mask31 (BitVec.ofNat 32 t)
    env := { s.env with nows := nows, drawn := s.env.drawn + 1 }
    trace := .now (BitVec.ofNat 32 t) :: .writePin s.cfgTxpin (pinLevel s.params.txInvert l) :: s.trace }

/-- The end of a wait does not depend on the place it was made at. -/
theorem symbolDone_ctl (c : Ctl) (s : State) : symbolDone { s with ctl := c } = symbolDone s := rfl

/-- A symbol is written and held with `WaitHalfBit`: the start read, and one poll a half-bit later
(41_line_encoder.md R226). -/
theorem runs_idealSymbol {l : Level} {levels : List Level} {s : State} {t : Nat} {rest : List Word32}
    (h : AtSymbol (l :: levels) s) (hv : s.params.txVariant = .timerWait) (hhb : s.txHb.toNat ≤ 500000)
    (ht : t + s.txHb.toNat < 2 ^ 31)
    (hnows : s.env.nows = BitVec.ofNat 32 t :: BitVec.ofNat 32 (t + s.txHb.toNat) :: rest) :
    runs 3 s = .next (symbolDone
      (held l (BitVec.ofNat 31 t) (envAfterWait rest s.env) (idealSymbol s s.txHb.toNat t l) s)) := by
  have hwrite := h.event
  rw [hv] at hwrite
  have hmask := mask31_ofNat t
  have helapsed : waitPoll (mask31 (BitVec.ofNat 32 t)) s.txHb (mask31 (BitVec.ofNat 32 (t + s.txHb.toNat))) =
      .elapsed := by
    refine waitPoll_elapsed hhb ?_
    rw [hmask, mask31_ofNat, BitVec.toNat_ofNat, BitVec.toNat_ofNat]
    omega
  have hstart : Machine.event { writeTx l s with ctl := .txStart } =
      .next (polling l t (BitVec.ofNat 32 (t + s.txHb.toNat) :: rest) s) :=
    event_txStart_fixed rfl hnows
  have hpoll : Machine.event (polling l t (BitVec.ofNat 32 (t + s.txHb.toNat) :: rest) s) =
      .next (symbolDone { held l (mask31 (BitVec.ofNat 32 t)) (envAfterWait rest s.env)
        (idealSymbol s s.txHb.toNat t l) s with ctl := .txPoll }) :=
    event_txPoll_fixed rfl rfl helapsed
  rw [symbolDone_ctl, hmask] at hpoll
  have hrun := runs_last (s := polling l t (BitVec.ofNat 32 (t + s.txHb.toNat) :: rest) s) h.port h.busy hpoll
  rw [runs_event h.port h.busy hwrite]
  exact (runs_event (s := { writeTx l s with ctl := .txStart }) h.port h.busy hstart 1).trans hrun

theorem runs_idealSymbols {levels : List Level} {s : State} {times : List Nat} {rest : List Word32}
    (h : AtSymbol levels s) (hv : s.params.txVariant = .timerWait) (hhb : s.txHb.toNat ≤ 500000)
    (hlen : times.length = levels.length) (htimes : validTimes s.txHb.toNat times)
    (hnows : s.env.nows = idealNows s.txHb.toNat times ++ rest) :
    runs (idealSymbols s s.txHb.toNat times levels).length s =
      .next (settling (BitVec.ofNat 31 (times.getLastD 0))
        { s.env with nows := rest, drawn := s.env.drawn + 2 * times.length }
        (idealSymbols s s.txHb.toNat times levels) s) := by
  induction levels generalizing s times with
  | nil => cases h.last
  | cons l levels ih =>
    obtain ⟨t, times, rfl⟩ := List.exists_cons_of_length_eq_add_one hlen
    have ht := htimes t (by simp)
    have hround := runs_idealSymbol h hv hhb ht hnows
    have hlen' : times.length = levels.length := Nat.succ.inj hlen
    cases levels with
    | nil =>
      obtain rfl : times = [] := List.length_eq_zero_iff.1 hlen'
      rw [h.done_last] at hround
      exact hround
    | cons l' levels =>
      obtain ⟨t', times, rfl⟩ := List.exists_cons_of_length_eq_add_one hlen'
      obtain ⟨hstate, hnext⟩ := h.done_next (BitVec.ofNat 31 t)
        (envAfterWait (idealNows s.txHb.toNat (t' :: times) ++ rest) s.env) (idealSymbol s s.txHb.toNat t l)
      have hrest := ih (times := t' :: times) hnext (by rw [hstate]; exact hv) (by rw [hstate]; exact hhb) hlen'
        (by rw [hstate]; exact fun t' ht' => htimes t' (List.mem_cons_of_mem t ht')) (by rw [hstate]; rfl)
      rw [hstate] at hrest
      have hround' := hround.trans (congrArg Host.Outcome.next hstate)
      have hevents : idealSymbols s s.txHb.toNat (t :: t' :: times) (l :: l' :: levels) =
          idealSymbol s s.txHb.toNat t l ++ idealSymbols s s.txHb.toNat (t' :: times) (l' :: levels) := rfl
      rw [hevents, List.length_append, show (idealSymbol s s.txHb.toNat t l).length = 3 from rfl,
        runs_add hround']
      have hdrawn : s.env.drawn + 2 * (t :: t' :: times).length =
          s.env.drawn + 2 + 2 * (t' :: times).length := by
        rw [List.length_cons]; omega
      rw [hdrawn]
      exact hrest.trans (congrArg Host.Outcome.next (settling_next _ _ _ _ _ _ _ _ _ _))

end Sys2Proof.Safety
end

section
/-! PROOF. Whole transmitting requests (41_line_encoder.md R228, R233, R234, R236; 43_dispatcher.md R294 to R300):
an attempt and its return, the transmit-mode policy, and the requests in either variant. -/

namespace Sys2Proof.Safety

open Sys2Proof.Machine

/-! An attempt and its return. -/

/-- `Transmit` has sent the value and is about to return (41_line_encoder.md R233). -/
def returned (value : BitVec 16) (w : Time31) (env : Env) (events : List Event) (u : State) : State :=
  { loaded value u with
    txSym := BitVec.ofNat 6 (symCount u.cfgTxbits.toNat u.cfgStop.toNat - 1)
    txState := .idle, ctl := .txSettle, txLine := some .high, txWstart := w, env := env
    trace := events.reverse ++ u.trace }

/-- From its start `Transmit` makes these events and returns to its caller. -/
def Transmits (value : BitVec 16) (u : State) (events : List Event) (w : Time31) (env : Env) : Prop :=
  ∀ t, transmitReturned (returned value w env events u) = .next t →
    runs events.length (transmit value u) = .next t

/-- The state in which `Transmit` may be started: the request is active, the configuration valid, nothing is
presented. -/
def Startable (u : State) : Prop :=
  u.port = none ∧ u.reqBusy = true ∧ u.cfgValid = true ∧ ConfigLegal u

theorem transmit_txNsym {value : BitVec 16} {u : State} (h : Startable u) :
    (transmit value u).txNsym.toNat = symCount u.cfgTxbits.toNat u.cfgStop.toNat := by
  obtain ⟨-, -, hv, hconfig⟩ := h
  have hle := symCount_le hconfig hv
  show (BitVec.ofNat 6 (symCount u.cfgTxbits.toNat u.cfgStop.toNat)).toNat = _
  rw [BitVec.toNat_ofNat]
  omega

theorem atSymbol_transmit {value : BitVec 16} {u : State} (h : Startable u) :
    AtSymbol (symbolsOf value u) (transmit value u) := by
  have hcount := transmit_txNsym (value := value) h
  have hlen : (symbolsOf value u).length = symCount u.cfgTxbits.toNat u.cfgStop.toNat := symSeq_length _ _ _
  obtain ⟨hp, hb, hv, hconfig⟩ := h
  have hle := symCount_le hconfig hv
  obtain ⟨-, -, -, hstop, -⟩ := (configLegal_iff u).1 hconfig hv
  refine ⟨hp, hb, rfl, rfl, hcount.trans hlen.symm, hlen.trans_le hle, ?_⟩
  have hcount' : symCount u.cfgTxbits.toNat u.cfgStop.toNat = 2 + 2 * u.cfgTxbits.toNat + 2 * u.cfgStop.toNat := rfl
  rw [List.getLast?_eq_getElem?, hlen]
  exact symSeq_getElem?_stop value (by omega) (by omega)

theorem settle_settling {value : BitVec 16} {u : State} (h : Startable u) (w : Time31) (env : Env)
    (events : List Event) :
    settle (settling w env events (transmit value u)) =
      returned value w env (events ++ [.delayUs (6 * (transmit value u).txHb.toNat)]) u := by
  rw [settling, transmit_txNsym h, returned, List.reverse_append]
  rfl

/-- An attempt that has written its symbols settles and returns. -/
theorem transmits_of_symbols {value : BitVec 16} {u : State} (h : Startable u) {w : Time31} {env : Env}
    {events : List Event}
    (hrun : runs events.length (transmit value u) = .next (settling w env events (transmit value u))) :
    Transmits value u (events ++ [.delayUs (6 * (transmit value u).txHb.toNat)]) w env := by
  intro t ht
  obtain ⟨hp, hb, -⟩ := id h
  have hsettle : event (settling w env events (transmit value u)) = .next t := by
    rw [← settle_settling h] at ht
    exact ht
  rw [List.length_append, runs_add hrun]
  exact runs_last (s := settling w env events (transmit value u)) hp hb hsettle

theorem transmit_txHb {value : BitVec 16} {u : State} (h : Startable u) :
    (transmit value u).txHb.toNat = 500000 / u.cfgBaud.toNat ∧ (transmit value u).txHb.toNat ≤ 500000 := by
  obtain ⟨-, -, hv, hconfig⟩ := h
  obtain ⟨hhb, -, hle⟩ := halfBit_legal hconfig hv
  exact ⟨hhb, hle⟩

/-- BusyDelay: an attempt reads no timer (41_line_encoder.md R234). -/
theorem transmits_busyDelay {value : BitVec 16} {u : State} (h : Startable u)
    (hvar : u.params.txVariant = .busyDelay) :
    Transmits value u (busyAttempt u (500000 / u.cfgBaud.toNat) (symbolsOf value u)) u.txWstart u.env := by
  obtain ⟨hhb, -⟩ := transmit_txHb (value := value) h
  rw [busyAttempt_eq, ← hhb]
  exact transmits_of_symbols h (runs_busySymbols (atSymbol_transmit h) hvar)

/-- TimerWait: an attempt under the ideal timer (95_test_vectors.md section 0). -/
theorem transmits_ideal {value : BitVec 16} {u : State} {times : List Nat} {rest : List Word32} (h : Startable u)
    (hvar : u.params.txVariant = .timerWait) (hlen : times.length = (symbolsOf value u).length)
    (htimes : validTimes (500000 / u.cfgBaud.toNat) times)
    (hnows : u.env.nows = idealNows (500000 / u.cfgBaud.toNat) times ++ rest) :
    Transmits value u (idealAttempt u (500000 / u.cfgBaud.toNat) times (symbolsOf value u))
      (BitVec.ofNat 31 (times.getLastD 0))
      { u.env with nows := rest, drawn := u.env.drawn + 2 * times.length } := by
  obtain ⟨hhb, hle⟩ := transmit_txHb (value := value) h
  rw [← hhb] at htimes hnows
  rw [idealAttempt_eq, ← hhb]
  exact transmits_of_symbols h (runs_idealSymbols (atSymbol_transmit h) hvar hle hlen htimes hnows)

/-! The transmit-mode policy. -/

/-- The Dispatcher's registers when a frame is sent for the first time (43_dispatcher.md R291). -/
def firstSend (tmode : TxMode) (f : Frame) (u : State) : State :=
  { u with dspFrame := f, dspTmode := tmode, dspState := .tx1 }

/-- The state in which the frame is sent for the second time (43_dispatcher.md R295). -/
def secondSend (f : Frame) (w : Time31) (env : Env) (events : List Event) (u : State) : State :=
  { returned f w env (events ++ [.delayUs 9000]) u with ctl := .repeatGap, dspState := .tx2 }

/-- TRANSMIT returns OK after one transmission (41_line_encoder.md R221). -/
theorem runs_transmit {value : BitVec 16} {u : State} {events : List Event} {w : Time31} {env : Env}
    (h : Transmits value u events w env) (hd : u.dspState = .idle) :
    runs events.length (transmit value u) = .next (finish (okResponse 0) (returned value w env events u)) := by
  refine h _ ?_
  have hd' : (returned value w env events u).dspState = .idle := hd
  simp only [transmitReturned, hd']

/-- A command that is not M_REPEAT is sent once (43_dispatcher.md R297). -/
theorem runs_dispatch_once {tmode : TxMode} {f : Frame} {u : State} {events : List Event} {w : Time31} {env : Env}
    (h : Transmits f (firstSend tmode f u) events w env) (hm : tmode ≠ .repeatTwice) :
    runs events.length (dispatch tmode f u) = .next
      (finish (okResponse 0) { returned f w env events (firstSend tmode f u) with dspState := .idle }) := by
  refine h _ ?_
  show (if tmode = .repeatTwice then _ else _) = _
  rw [if_neg hm]

/-- A command that is M_REPEAT is sent twice, with the gap between (43_dispatcher.md R294, R295). -/
theorem runs_dispatch_twice {f : Frame} {u : State} {once twice : List Event} {w w' : Time31} {env env' : Env}
    (hu : Startable u) (h : Transmits f (firstSend .repeatTwice f u) once w env)
    (h' : Transmits f (secondSend f w env once (firstSend .repeatTwice f u)) twice w' env') :
    runs (once ++ [Event.delayUs 9000] ++ twice).length (dispatch .repeatTwice f u) = .next
      (finish (okResponse 0) { returned f w' env' (once ++ [.delayUs 9000] ++ twice)
        (firstSend .repeatTwice f u) with dspState := .idle }) := by
  obtain ⟨hp, hb, -⟩ := hu
  have hfirst : runs once.length (dispatch .repeatTwice f u) = .next
      { returned f w env once (firstSend .repeatTwice f u) with dspState := .gap, ctl := .repeatGap } :=
    h _ rfl
  have hgap : event { returned f w env once (firstSend .repeatTwice f u) with dspState := .gap, ctl := .repeatGap } =
      .next (transmit f (secondSend f w env once (firstSend .repeatTwice f u))) := by
    rw [secondSend, returned, returned, List.reverse_append]
    rfl
  have hsecond := h' (finish (okResponse 0)
    { returned f w' env' twice (secondSend f w env once (firstSend .repeatTwice f u)) with dspState := .idle }) rfl
  have hend : returned f w' env' twice (secondSend f w env once (firstSend .repeatTwice f u)) =
      { returned f w' env' (once ++ [.delayUs 9000] ++ twice) (firstSend .repeatTwice f u) with dspState := .tx2 } := by
    simp only [returned, secondSend, List.reverse_append, List.append_assoc]
    rfl
  rw [hend] at hsecond
  rw [List.length_append, List.length_append, Nat.add_assoc, runs_add hfirst, Nat.add_comm _ twice.length]
  exact (runs_event (s := { returned f w env once (firstSend .repeatTwice f u) with
    dspState := .gap, ctl := .repeatGap }) hp hb hgap twice.length).trans hsecond

end Sys2Proof.Safety
end

section
/-! PROOF. The transmitting requests from acceptance to response, in the BusyDelay variant and under the ideal
timer (41_line_encoder.md R228, R233, R234, R236; 43_dispatcher.md R294 to R300). -/

namespace Sys2Proof.Safety

open Sys2Proof.Machine

/-! BusyDelay. -/

/-- A request of the BusyDelay variant has been accepted and has disabled interrupts (43_dispatcher.md R296). -/
def guarded (s : State) : State := intDisableSave (accept s)

theorem startable_guarded {s : State} (hs : Ready s) (hp : s.port = none) : Startable (guarded s) :=
  ⟨hp, rfl, hs.2.1, hs.2.2⟩

/-- A request that is done inside the guard restores interrupts and answers (43_dispatcher.md R296). -/
theorem runs_exit {k : Nat} {r : Response} {s t : State} (hrun : runs k s = .next (finish r t))
    (hp : t.port = none) (hb : t.reqBusy = true) (hcs : t.csActive = true) :
    runs (k + 1) s = .next (exitCs r none t) := by
  rw [finish_inside r t hcs] at hrun
  rw [runs_add hrun]
  exact runs_last (s := { t with ctl := .csExit r none }) hp hb rfl

/-- The end of a request inside the guard: interrupts are restored and the token stays. -/
theorem exitCs_returned {value : BitVec 16} {w : Time31} {env : Env} {events : List Event} {s : State}
    (hs : Idle s) :
    exitCs (okResponse 0) none (returned value w env events (guarded s)) =
      { transmitted value ([.intDisableSave (drawToken s.env).1] ++ events ++ [.intRestore (drawToken s.env).1]) s with
        csToken := (drawToken s.env).1, txWstart := w, env := env } := by
  obtain ⟨-, hcs, -⟩ := hs
  have htrace : ([Event.intDisableSave (drawToken s.env).1] ++ events ++
      [Event.intRestore (drawToken s.env).1]).reverse ++ s.trace =
      Event.intRestore (drawToken s.env).1 ::
        (events.reverse ++ Event.intDisableSave (drawToken s.env).1 :: s.trace) := by
    simp
  have hguard (t : State) (ht : t.csActive = false) : t = { t with csActive := false } := by
    rw [← ht]
  rw [transmitted, htrace, hguard (answered { status := .ok, value := 0 } (loaded value s)) hcs]
  rfl

/-- Settles O36: one attempt inside the guard. -/
theorem busyTransmission : Obligations.BusyTransmission := by
  unfold Obligations.BusyTransmission
  intro value s hs hv hp
  obtain ⟨hidle, hc, -⟩ := id hs
  obtain ⟨hb, -, hd⟩ := id hidle
  have hrun := runs_transmit (transmits_busyDelay (value := value) (startable_guarded hs hp) hv) hd
  refine ⟨_, exec_transmit_busyDelay value hb hc hv, rfl, ?_⟩
  exact (runs_exit hrun hp rfl rfl).trans (congrArg Host.Outcome.next (exitCs_returned hidle))

/-- The Dispatcher has sent a frame and is idle again (43_dispatcher.md R299). -/
theorem dispatch_returned {tmode : TxMode} {f : Frame} {w : Time31} {env : Env} {events : List Event} {u : State}
    (hd : u.dspState = .idle) :
    { returned f w env events (firstSend tmode f u) with dspState := .idle } =
      dispatched tmode f (returned f w env events u) := by
  rw [← hd]
  rfl

/-- A dispatched frame in the BusyDelay variant makes these events and returns (43_dispatcher.md R294 to R297). -/
theorem runs_dispatch_busyDelay {tmode : TxMode} {f : Frame} {u : State} (h : Startable u)
    (hvar : u.params.txVariant = .busyDelay) (hd : u.dspState = .idle) :
    runs (busyDispatch u tmode f).length (dispatch tmode f u) = .next
      (finish (okResponse 0) (dispatched tmode f (returned f u.txWstart u.env (busyDispatch u tmode f) u))) := by
  rw [busyDispatch, ← dispatch_returned hd]
  by_cases hm : tmode = .repeatTwice
  · subst hm
    exact runs_dispatch_twice h (transmits_busyDelay h hvar) (transmits_busyDelay h hvar)
  · rw [if_neg hm]
    exact runs_dispatch_once (transmits_busyDelay h hvar) hm

/-- A request that encodes a frame, from its acceptance to its response in the BusyDelay variant. -/
theorem exec_busyDispatch {i : Instr} {tmode : TxMode} {f : Frame} {s : State} (hs : Ready s)
    (hv : s.params.txVariant = .busyDelay) (hp : s.port = none) (h : Encodes s.params.tables i tmode f) :
    ∃ t, exec i s = .next t ∧ t.trace = .intDisableSave (drawToken s.env).1 :: s.trace ∧
      runs ((busyDispatch s tmode f).length + 1) t = .next
        { dispatched tmode f (transmitted f ([.intDisableSave (drawToken s.env).1] ++ busyDispatch s tmode f ++
            [.intRestore (drawToken s.env).1]) s) with
          csToken := (drawToken s.env).1, env := (drawToken s.env).2 } := by
  obtain ⟨hidle, -⟩ := id hs
  obtain ⟨-, -, hd⟩ := id hidle
  obtain ⟨job, hx, hj⟩ := encodes_body h
  have hrun := runs_dispatch_busyDelay (tmode := tmode) (f := f) (startable_guarded hs hp) hv hd
  refine ⟨_, (hx s).trans (request_sends_busyDelay hs hv (hj s.params rfl)), rfl, ?_⟩
  exact (runs_exit hrun hp rfl rfl).trans
    (congrArg (fun t => Host.Outcome.next (dispatched tmode f t)) (exitCs_returned hidle))

/-- Settles O39: the row's request encodes the frame that presents the row. -/
theorem frameRowsRun : Obligations.FrameRowsRun := by
  unfold Obligations.FrameRowsRun
  intro i r f s hr hw he hs hv htables hp
  obtain ⟨t, ht, -, hrun⟩ := exec_busyDispatch hs hv hp (htables ▸ row_encodes hr hw he)
  exact ⟨t, (rowsAreRequests i r s hr).trans ht, hrun⟩

/-! The ideal timer. -/

theorem startable_accept {s : State} (hs : Ready s) (hp : s.port = none) : Startable (accept s) :=
  ⟨hp, rfl, hs.2.1, hs.2.2⟩

theorem symbolsOf_length (value : BitVec 16) (s : State) :
    (symbolsOf value s).length = 2 + 2 * s.cfgTxbits.toNat + 2 * s.cfgStop.toNat :=
  symSeq_length _ _ _

/-- A request that is done outside the guard answers (41_line_encoder.md R233). -/
theorem finish_returned {value : BitVec 16} {w : Time31} {env : Env} {events : List Event} {s : State}
    (hs : Idle s) :
    finish (okResponse 0) (returned value w env events (accept s)) =
      { transmitted value events s with txWstart := w, env := env } := by
  obtain ⟨-, hcs, -⟩ := hs
  rw [finish_outside _ (returned value w env events (accept s)) hcs]
  rfl

theorem idealAttempt_length (s : State) (hb : Nat) {times : List Nat} {levels : List Level}
    (h : times.length = levels.length) : (idealAttempt s hb times levels).length = 3 * times.length + 1 := by
  rw [idealAttempt_eq, List.length_append, idealSymbols_length s hb h]
  rfl

/-- A transmission in the TimerWait variant goes on from its first event (41_line_encoder.md R235). -/
theorem runs_started {value : BitVec 16} {u : State} (h : Startable u) (hvar : u.params.txVariant = .timerWait)
    (k : Nat) : runs (k + 1) (transmit value u) = runs k { writeTx .high (transmit value u) with ctl := .txStart } := by
  obtain ⟨hp, hb, -⟩ := h
  have hevent := event_transmit value u
  rw [hvar] at hevent
  exact runs_event (s := transmit value u) hp hb hevent k

/-- Settles O35: one attempt, whose first event the request makes. -/
theorem idealTransmission : Obligations.IdealTransmission := by
  unfold Obligations.IdealTransmission
  intro value s times rest hs hv hp hb hlen htimes hnows
  obtain ⟨hidle, hc, -⟩ := id hs
  obtain ⟨hbusy, -, hd⟩ := id hidle
  have hu := startable_accept hs hp
  have hlevels : times.length = (symbolsOf value (accept s)).length := hlen.trans (symbolsOf_length value s).symm
  have hrun := runs_transmit (transmits_ideal (value := value) hu hv hlevels htimes hnows) hd
  rw [idealAttempt_length _ _ hlevels, runs_started hu hv] at hrun
  exact ⟨_, exec_transmit_timerWait value hbusy hc hv,
    hrun.trans (congrArg Host.Outcome.next (finish_returned hidle))⟩

/-- The events of a dispatched frame under the ideal timer: one transmission, or two with the repeat gap between
them (43_dispatcher.md R294, R295, R297). -/
def idealSending (s : State) (tmode : TxMode) (f : Frame) (times times' : List Nat) : List Event :=
  let once := idealAttempt s (500000 / s.cfgBaud.toNat) times (symbolsOf f s)
  if tmode = .repeatTwice then
    once ++ [.delayUs 9000] ++ idealAttempt s (500000 / s.cfgBaud.toNat) times' (symbolsOf f s)
  else once

theorem idealSending_length_pos (s : State) (tmode : TxMode) (f : Frame) (times times' : List Nat) :
    0 < (idealSending s tmode f times times').length := by
  unfold idealSending
  split <;> simp [idealAttempt_eq]

/-- A dispatched frame makes these events under the ideal timer, uses up its answers, and returns. -/
theorem runs_dispatch_ideal {tmode : TxMode} {f : Frame} {u : State} {times times' : List Nat}
    {rest : List Word32} (h : Startable u) (hvar : u.params.txVariant = .timerWait) (hd : u.dspState = .idle)
    (hlen : times.length = (symbolsOf f u).length) (htimes : validTimes (500000 / u.cfgBaud.toNat) times)
    (hlen' : times'.length = (symbolsOf f u).length) (htimes' : validTimes (500000 / u.cfgBaud.toNat) times')
    (hnows : u.env.nows = idealNows (500000 / u.cfgBaud.toNat) times ++
      (if tmode = .repeatTwice then idealNows (500000 / u.cfgBaud.toNat) times' else []) ++ rest) :
    ∃ w env, env.nows = rest ∧ runs (idealSending u tmode f times times').length (dispatch tmode f u) = .next
      (finish (okResponse 0)
        (dispatched tmode f (returned f w env (idealSending u tmode f times times') u))) := by
  unfold idealSending
  by_cases hm : tmode = .repeatTwice
  · subst hm
    rw [if_pos rfl, List.append_assoc] at hnows
    have honce := transmits_ideal (u := firstSend .repeatTwice f u) h hvar hlen htimes hnows
    have htwice (w : Time31) (env : Env) (events : List Event)
        (henv : env.nows = idealNows (500000 / u.cfgBaud.toNat) times' ++ rest) :=
      transmits_ideal (u := secondSend f w env events (firstSend .repeatTwice f u)) h hvar hlen' htimes' henv
    refine ⟨_, _, ?_, dispatch_returned (f := f) hd ▸ runs_dispatch_twice h honce (htwice _ _ _ rfl)⟩
    rfl
  · rw [if_neg hm, List.append_nil] at hnows
    have honce := transmits_ideal (u := firstSend tmode f u) h hvar hlen htimes hnows
    rw [if_neg hm]
    refine ⟨_, _, ?_, dispatch_returned (f := f) hd ▸ runs_dispatch_once honce hm⟩
    rfl

/-- Settles O38: the frame once or twice, whose first event the request makes. -/
theorem idealDispatch : Obligations.IdealDispatch := by
  unfold Obligations.IdealDispatch
  intro i tmode f s times times' rest hs hv hp h hb n hlen htimes hlen' htimes' hnows
  obtain ⟨⟨-, hcs, hd⟩, -⟩ := id hs
  have hu := startable_accept hs hp
  have hlevels := symbolsOf_length f s
  obtain ⟨w, env, henv, hrun⟩ := runs_dispatch_ideal (tmode := tmode) (f := f) hu hv hd
    (hlen.trans hlevels.symm) htimes (hlen'.trans hlevels.symm) htimes' hnows
  obtain ⟨job, hx, hj⟩ := encodes_body h
  rw [finish_outside _ (dispatched tmode f (returned f w env _ (accept s))) hcs,
    ← Nat.sub_add_cancel (idealSending_length_pos (accept s) tmode f times times'),
    show dispatch tmode f (accept s) = transmit f (firstSend tmode f (accept s)) from rfl,
    runs_started (u := firstSend tmode f (accept s)) hu hv] at hrun
  exact ⟨_, _, (hx s).trans (request_sends_timerWait hs hv (hj s.params rfl)), hrun, rfl, rfl, rfl, rfl, rfl, hd,
    rfl, rfl, henv⟩

end Sys2Proof.Safety

namespace Sys2Proof

open Sys2Proof.Safety

/-- Settles O37: the frame once or twice inside the guard. -/
theorem busyDispatch : Obligations.BusyDispatch := by
  unfold Obligations.BusyDispatch
  intro i tmode f s hs hv hp h
  exact exec_busyDispatch hs hv hp h

end Sys2Proof
end

section
/-! PROOF. A whole reception of a clean frame (42_line_receiver.md R264 to R267, R271): the edge, window after
window, and the response. -/

namespace Sys2Proof.Safety

open Sys2Proof.Machine

/-! One sample. -/

/-- When window `k` begins (42_line_receiver.md R264). -/
def windowStart (s : State) (k : Nat) : Nat :=
  s.rxTedge.toNat + (s.params.rxLead + k) * (500000 / s.cfgBaud.toNat)

/-- When a sample of window `k` is due (42_line_receiver.md R265). -/
def dueTime (s : State) (k quarters : Nat) : Nat := windowStart s k + quarters * (500000 / s.cfgBaud.toNat) / 4

/-- A window's samples are due before the next window begins. -/
theorem dueTime_le (s : State) {k m quarters : Nat} (hk : k < m) (hq : quarters ≤ 4) :
    dueTime s k quarters ≤ windowStart s m := by
  have hquarters := Nat.mul_le_mul_right (500000 / s.cfgBaud.toNat) hq
  have hnext := Nat.mul_le_mul_right (500000 / s.cfgBaud.toNat)
    (show s.params.rxLead + k + 1 ≤ s.params.rxLead + m by omega)
  rw [Nat.add_one_mul] at hnext
  unfold dueTime windowStart
  omega

/-- The block is at this place after it has read the timer; these answers are left. -/
def timerRead (c : Ctl) (t : Word32) (rest : List Word32) (s : State) : State :=
  { s with ctl := c, env := { s.env with nows := rest, drawn := s.env.drawn + 1 }, trace := .now t :: s.trace }

/-- The block is at this place after it has read the rx pin; these answers are left. -/
def pinRead (c : Ctl) (l : Level) (rest : List Level) (s : State) : State :=
  { s with
    ctl := c, env := { s.env with pins := rest, drawn := s.env.drawn + 1 }
    trace := .readPin s.cfgRxpin l :: s.trace }

theorem readNow_exactly {s : State} {t : Nat} {rest : List Word32} (ht : t < 2 ^ 31)
    (hn : s.env.nows = BitVec.ofNat 32 t :: rest) : (drawNow s.env).1.toNat % 2 ^ 31 = t := by
  rw [drawNow_fixed _ _ _ hn, BitVec.toNat_ofNat]
  omega

/-- A timer read at the time a sample is due leads to the pin read (42_line_receiver.md R265). -/
theorem rxWaitEvent_due {q : Nat} {wrapped : State → State} {ready : Ctl} {s : State} {rest : List Word32}
    (hconfig : ConfigLegal s) (hv : s.cfgValid = true) (hlt : dueTime s s.rxK.toNat q < 2 ^ 31)
    (hn : s.env.nows = BitVec.ofNat 32 (dueTime s s.rxK.toNat q) :: rest) :
    rxWaitEvent q wrapped ready s = timerRead ready (BitVec.ofNat 32 (dueTime s s.rxK.toNat q)) rest s := by
  have hread := readNow_exactly hlt hn
  have hdue : (sampleDue q s).toNat = dueTime s s.rxK.toNat q :=
    sampleDue_toNat hconfig hv (hlt.trans (by decide))
  have hedge : s.rxTedge.toNat ≤ dueTime s s.rxK.toNat q := by
    unfold dueTime windowStart; omega
  obtain ⟨-, helapsed, -⟩ := rxWaitEvent_polls (q := q) (s := s) (wrapped := wrapped) (ready := ready)
  rw [helapsed (hread ▸ hedge) (by rw [hread, hdue]), readNow_fixed hn]
  rfl

theorem event_rxReadA {l : Level} {rest : List Level} {s : State} (hc : s.ctl = .rxReadA)
    (hpins : s.env.pins = l :: rest) : event s = .next (pinRead (.rxWaitB (some l)) l rest s) := by
  simp only [event, hc, rxReadAEvent, readRxPin_fixed hpins]
  rfl

/-- The second sample is read and the window judged (42_line_receiver.md R261). -/
theorem event_rxReadB {a l : Level} {rest : List Level} {s : State} (hc : s.ctl = .rxReadB (some a))
    (hpins : s.env.pins = l :: rest) : event s = .next (windowDone a l (pinRead (.rxReadB (some a)) l rest s)) := by
  have hread := readRxPin_fixed hpins
  rw [← hc]
  simp only [event, hc, rxReadBEvent, hread]
  rfl

/-! One window. -/

/-- The window that is due reads this level at both of its sample points. -/
structure Sampled (l : Level) (nows : List Word32) (pins : List Level) (s : State) : Prop where
  port : s.port = none
  busy : s.reqBusy = true
  place : s.ctl = .rxWaitA
  config : ConfigLegal s
  valid : s.cfgValid = true
  inTime : dueTime s s.rxK.toNat 4 < 2 ^ 31
  nows : s.env.nows = BitVec.ofNat 32 (dueTime s s.rxK.toNat 1) :: BitVec.ofNat 32 (dueTime s s.rxK.toNat 3) :: nows
  pins : s.env.pins = l :: l :: pins

/-- A window that is due has been sampled; these answers are left. -/
def sampled (l : Level) (nows : List Word32) (pins : List Level) (s : State) : State :=
  { s with
    ctl := .rxReadB (some l)
    env := { s.env with nows := nows, pins := pins, drawn := s.env.drawn + 4 }
    trace := [.readPin s.cfgRxpin l, .now (BitVec.ofNat 32 (dueTime s s.rxK.toNat 3)),
      .readPin s.cfgRxpin l, .now (BitVec.ofNat 32 (dueTime s s.rxK.toNat 1))] ++ s.trace }

/-- The four events of a window: a timer read and a pin read for each sample (42_line_receiver.md R264). -/
theorem Sampled.run {l : Level} {nows : List Word32} {pins : List Level} {s : State} (h : Sampled l nows pins s) :
    runs 4 s = .next (windowDone l l (sampled l nows pins s)) := by
  obtain ⟨hp, hb, hc, hconfig, hv, hlt, hnows, hpins⟩ := h
  have dueBefore {q : Nat} (hq : q ≤ 4) : dueTime s s.rxK.toNat q < 2 ^ 31 := by
    have hquarters := Nat.mul_le_mul_right (500000 / s.cfgBaud.toNat) hq
    unfold dueTime at hlt ⊢
    omega
  let s₁ := timerRead .rxReadA (BitVec.ofNat 32 (dueTime s s.rxK.toNat 1))
    (BitVec.ofNat 32 (dueTime s s.rxK.toNat 3) :: nows) s
  let s₂ := pinRead (.rxWaitB (some l)) l (l :: pins) s₁
  let s₃ := timerRead (.rxReadB (some l)) (BitVec.ofNat 32 (dueTime s s.rxK.toNat 3)) nows s₂
  have hwaitA : event s = .next s₁ := by
    simp only [event, hc, rxWaitAEvent]
    rw [rxWaitEvent_due hconfig hv (dueBefore (by decide)) hnows]
  have hwaitB : event s₂ = .next s₃ :=
    congrArg Host.Outcome.next (rxWaitEvent_due (s := s₂) hconfig hv (dueBefore (by decide)) rfl)
  have hreadB := runs_last (s := s₃) hp hb (event_rxReadB (l := l) (rest := pins) rfl rfl)
  calc runs 4 s
    _ = runs 3 s₁ := runs_event hp hb hwaitA 3
    _ = runs 2 s₂ := runs_event (s := s₁) hp hb (event_rxReadA rfl hpins) 2
    _ = runs 1 s₃ := runs_event (s := s₂) hp hb hwaitB 1
    _ = _ := hreadB

/-! Window after window. -/

/-- The shift register after a window with this level (42_line_receiver.md R267). -/
def shiftedIn (l : Level) (s : State) : Word32 :=
  if s.rxK.toNat < 2 * s.cfgRxbits.toNat then shiftSymbol s.rxShift l else s.rxShift

/-- A window whose samples agree is accepted: a data window, or a High stop window. -/
theorem windowDone_accepted {l : Level} {s : State} (h : s.rxK.toNat < 2 * s.cfgRxbits.toNat ∨ l = .high) :
    windowDone l l s = nextWindow { s with rxShift := shiftedIn l s } := by
  by_cases hdata : s.rxK.toNat < 2 * s.cfgRxbits.toNat
  · rw [windowDone_data l hdata, shiftedIn, if_pos hdata]
  · obtain rfl := h.resolve_left hdata
    rw [windowDone_stop (not_lt.1 hdata), shiftedIn, if_neg hdata]

/-- The value of the data symbols among the levels of the windows from `k` on, of `n` data windows, shifted into
`v` (42_line_receiver.md R267). -/
def collected (n k : Nat) (levels : List Level) (v : Nat) : Nat :=
  (levels.take (n - k)).foldl (fun v l => 2 * v + (if l = .high then 1 else 0)) v

/-- The windows that are left read these levels, and the stop windows among them High. -/
structure AtWindow (levels : List Level) (s : State) : Prop where
  port : s.port = none
  busy : s.reqBusy = true
  place : s.ctl = .rxWaitA
  config : ConfigLegal s
  valid : s.cfgValid = true
  count : s.rxK.toNat + levels.length = windowCount s.cfgRxbits.toNat s.cfgStop.toNat
  inTime : windowStart s (windowCount s.cfgRxbits.toNat s.cfgStop.toNat) < 2 ^ 31
  nows : s.env.nows = (List.range' s.rxK.toNat levels.length).flatMap
    fun k => [BitVec.ofNat 32 (dueTime s k 1), BitVec.ofNat 32 (dueTime s k 3)]
  pins : s.env.pins = levels.flatMap fun l => [l, l]
  stops : ∀ l ∈ levels.drop (2 * s.cfgRxbits.toNat - s.rxK.toNat), l = .high
  used : s.rxShift.toNat < 2 ^ min s.rxK.toNat (2 * s.cfgRxbits.toNat)

/-- RECEIVE has returned OK after its last window (42_line_receiver.md R271). -/
def received (shift : Word32) (env : Env) (trace : List Event) (s : State) : State :=
  respond (okResponse (Config.rxDecode shift s.cfgRxbits.toNat)) { s with
    rxState := .idle, rxShift := shift
    rxK := BitVec.ofNat 6 (windowCount s.cfgRxbits.toNat s.cfgStop.toNat - 1)
    env := env, trace := trace }

section
variable {l : Level} {levels : List Level} {s : State} (h : AtWindow (l :: levels) s)
include h

theorem AtWindow.due : Sampled l
    ((List.range' (s.rxK.toNat + 1) levels.length).flatMap
      fun k => [BitVec.ofNat 32 (dueTime s k 1), BitVec.ofNat 32 (dueTime s k 3)])
    (levels.flatMap fun l => [l, l]) s := by
  have hcount := h.count
  rw [List.length_cons] at hcount
  exact ⟨h.port, h.busy, h.place, h.config, h.valid,
    (dueTime_le s (by omega) le_rfl).trans_lt h.inTime, h.nows, h.pins⟩

/-- The window that is due is a data window or reads High. -/
theorem AtWindow.accepted : s.rxK.toNat < 2 * s.cfgRxbits.toNat ∨ l = .high := by
  by_cases hdata : s.rxK.toNat < 2 * s.cfgRxbits.toNat
  · exact .inl hdata
  · refine .inr (h.stops l ?_)
    rw [Nat.sub_eq_zero_of_le (not_lt.1 hdata)]
    exact List.mem_cons_self

theorem AtWindow.stops_tail :
    ∀ l ∈ levels.drop (2 * s.cfgRxbits.toNat - (s.rxK.toNat + 1)), l = .high := by
  intro l' hl'
  refine h.stops l' ?_
  by_cases hdata : s.rxK.toNat < 2 * s.cfgRxbits.toNat
  · rwa [show 2 * s.cfgRxbits.toNat - s.rxK.toNat = 2 * s.cfgRxbits.toNat - (s.rxK.toNat + 1) + 1 by omega]
  · rw [Nat.sub_eq_zero_of_le (not_lt.1 hdata)]
    exact List.mem_cons_of_mem l (List.mem_of_mem_drop hl')

theorem AtWindow.shiftedIn_toNat (hdata : s.rxK.toNat < 2 * s.cfgRxbits.toNat) :
    (shiftedIn l s).toNat = 2 * s.rxShift.toNat + (if l = .high then 1 else 0) := by
  obtain ⟨-, -, hbits, -⟩ := (configLegal_iff s).1 h.config h.valid
  have hused := h.used
  have hpow : 2 ^ min s.rxK.toNat (2 * s.cfgRxbits.toNat) ≤ 2 ^ 31 := Nat.pow_le_pow_right (by decide) (by omega)
  rw [shiftedIn, if_pos hdata]
  exact shiftSymbol_toNat l (by omega)

theorem AtWindow.shiftedIn_lt :
    (shiftedIn l s).toNat < 2 ^ min (s.rxK.toNat + 1) (2 * s.cfgRxbits.toNat) := by
  have hused := h.used
  by_cases hdata : s.rxK.toNat < 2 * s.cfgRxbits.toNat
  · rw [Nat.min_eq_left hdata.le] at hused
    rw [h.shiftedIn_toNat hdata, Nat.min_eq_left (by omega), Nat.pow_succ]
    split <;> omega
  · rw [shiftedIn, if_neg hdata, Nat.min_eq_right (by omega)]
    rwa [Nat.min_eq_right (by omega)] at hused

/-- The window's level is the next symbol of the value collected. -/
theorem AtWindow.collected_cons :
    collected (2 * s.cfgRxbits.toNat) s.rxK.toNat (l :: levels) s.rxShift.toNat =
      collected (2 * s.cfgRxbits.toNat) (s.rxK.toNat + 1) levels (shiftedIn l s).toNat := by
  unfold collected
  by_cases hdata : s.rxK.toNat < 2 * s.cfgRxbits.toNat
  · rw [show 2 * s.cfgRxbits.toNat - s.rxK.toNat = 2 * s.cfgRxbits.toNat - (s.rxK.toNat + 1) + 1 by omega,
      List.take_succ_cons, List.foldl_cons, h.shiftedIn_toNat hdata]
  · rw [Nat.sub_eq_zero_of_le (not_lt.1 hdata), Nat.sub_eq_zero_of_le (by omega), shiftedIn, if_neg hdata]
    rfl

end

/-- The window that is due is sampled and accepted. -/
theorem AtWindow.run {l : Level} {levels : List Level} {s : State} (h : AtWindow (l :: levels) s) :
    runs 4 s = .next (nextWindow { sampled l ((List.range' (s.rxK.toNat + 1) levels.length).flatMap
      fun k => [BitVec.ofNat 32 (dueTime s k 1), BitVec.ofNat 32 (dueTime s k 3)])
      (levels.flatMap fun l => [l, l]) s with rxShift := shiftedIn l s }) := by
  rw [h.due.run, windowDone_accepted (s := sampled l _ _ s) h.accepted]
  rfl

/-- After the last window the request returns OK. -/
theorem AtWindow.run_last {l : Level} {s : State} (h : AtWindow [l] s) :
    runs 4 s = .next (received (shiftedIn l s) (sampled l [] [] s).env (sampled l [] [] s).trace s) := by
  have hcount : s.rxK.toNat + 1 = windowCount s.cfgRxbits.toNat s.cfgStop.toNat := h.count
  have hindex : BitVec.ofNat 6 (windowCount s.cfgRxbits.toNat s.cfgStop.toNat - 1) = s.rxK := by
    rw [← hcount, Nat.add_sub_cancel, BitVec.ofNat_toNat, BitVec.setWidth_eq]
  have hshift : (shiftedIn l s).toNat < 2 ^ (2 * s.cfgRxbits.toNat) := by
    have hlt := h.shiftedIn_lt
    rwa [Nat.min_eq_right (by unfold windowCount at hcount; omega)] at hlt
  rw [h.run, nextWindow_last (s := { sampled l _ _ s with rxShift := shiftedIn l s }) hcount,
    receiveDone_used (s := { sampled l _ _ s with rxShift := shiftedIn l s }) hshift, received, hindex]
  rfl

theorem AtWindow.index_succ {levels : List Level} {s : State} (h : AtWindow levels s) :
    (s.rxK + 1).toNat = s.rxK.toNat + 1 := by
  have hcount := h.count
  have hle := windowCount_le h.config h.valid
  exact index_succ_toNat (by omega)

/-- The next window is due, after these answers. -/
def atNextWindow (shift : Word32) (phase : RxState) (env : Env) (trace : List Event) (s : State) : State :=
  { s with rxShift := shift, rxK := s.rxK + 1, rxState := phase, ctl := .rxWaitA, env := env, trace := trace }

/-- What holds of the windows that are left after one that is not the last. -/
theorem AtWindow.next {l : Level} {levels : List Level} {s : State} (h : AtWindow (l :: levels) s) {env : Env}
    (phase : RxState) (trace : List Event) (hpins : env.pins = levels.flatMap fun l => [l, l])
    (hnows : env.nows = (List.range' (s.rxK.toNat + 1) levels.length).flatMap
      fun k => [BitVec.ofNat 32 (dueTime s k 1), BitVec.ofNat 32 (dueTime s k 3)]) :
    AtWindow levels (atNextWindow (shiftedIn l s) phase env trace s) := by
  have hindex : (atNextWindow (shiftedIn l s) phase env trace s).rxK.toNat = s.rxK.toNat + 1 := h.index_succ
  have hcount := h.count
  rw [List.length_cons] at hcount
  refine ⟨h.port, h.busy, rfl, h.config, h.valid, ?_, h.inTime, ?_, hpins, ?_, ?_⟩
  · rw [hindex, Nat.add_right_comm]
    exact hcount
  · rw [hindex]
    exact hnows
  · rw [hindex]
    exact h.stops_tail
  · rw [hindex]
    exact h.shiftedIn_lt

/-- After a window that is not the last, the next one is due. -/
theorem AtWindow.run_next {l l' : Level} {levels : List Level} {s : State} (h : AtWindow (l :: l' :: levels) s) :
    ∃ phase env trace, runs 4 s = .next (atNextWindow (shiftedIn l s) phase env trace s) ∧
      AtWindow (l' :: levels) (atNextWindow (shiftedIn l s) phase env trace s) := by
  have hcount := h.count
  rw [List.length_cons, List.length_cons] at hcount
  have hle := windowCount_le h.config h.valid
  have hmore : s.rxK.toNat + 1 < windowCount s.cfgRxbits.toNat s.cfgStop.toNat := by omega
  have hk : s.rxK.toNat ≤ 35 := by omega
  have hrun := h.run
  rw [nextWindow_more (s := { sampled l _ _ s with rxShift := shiftedIn l s }) hmore hk] at hrun
  exact ⟨_, _, _, hrun, h.next _ _ rfl rfl⟩

theorem AtWindow.run_all {levels : List Level} {s : State} (h : AtWindow levels s) (hne : levels ≠ []) :
    ∃ env trace, env.nows = [] ∧ env.pins = [] ∧ runs (4 * levels.length) s = .next
      (received (BitVec.ofNat 32 (collected (2 * s.cfgRxbits.toNat) s.rxK.toNat levels s.rxShift.toNat))
        env trace s) := by
  induction levels generalizing s with
  | nil => exact absurd rfl hne
  | cons l levels ih =>
    rw [h.collected_cons]
    cases levels with
    | nil =>
      have hshift : BitVec.ofNat 32 (collected (2 * s.cfgRxbits.toNat) (s.rxK.toNat + 1) [] (shiftedIn l s).toNat) =
          shiftedIn l s := by
        rw [collected, List.take_nil, List.foldl_nil, BitVec.ofNat_toNat, BitVec.setWidth_eq]
      rw [hshift]
      exact ⟨(sampled l [] [] s).env, _, rfl, rfl, h.run_last⟩
    | cons l' levels =>
      obtain ⟨phase, env, trace, hrun, hnext⟩ := h.run_next
      obtain ⟨env', trace', hnows, hpins, hrest⟩ := ih hnext (List.cons_ne_nil _ _)
      refine ⟨env', trace', hnows, hpins, ?_⟩
      rw [List.length_cons, Nat.mul_add_one, Nat.add_comm, runs_add hrun]
      rw [← h.index_succ]
      exact hrest

/-! The edge. -/

theorem event_rxFirst {l : Level} {rest : List Level} {s : State} (hc : s.ctl = .rxFirst)
    (hpins : s.env.pins = l :: rest) : event s = .next { pinRead .rxPoll l rest s with rxPrev := l } := by
  simp only [event, hc, rxFirstEvent, readRxPin_fixed hpins]
  rfl

/-- A poll before the timeout leads to the pin read (42_line_receiver.md R269). -/
theorem event_rxPoll_inTime {t : Nat} {rest : List Word32} {s : State} (hc : s.ctl = .rxPoll) (ht : t < 2 ^ 31)
    (hn : s.env.nows = BitVec.ofNat 32 t :: rest) (hcall : s.rxTcall.toNat ≤ t)
    (hlt : t - s.rxTcall.toNat < s.params.rxTimeoutUs) :
    event s = .next (timerRead (.rxEdge (BitVec.ofNat 31 t)) (BitVec.ofNat 32 t) rest s) := by
  have hout : ¬ rxTimedOut s.rxTcall (BitVec.ofNat 31 t) s.params.rxTimeoutUs = true := by
    rw [rxTimedOut_iff, BitVec.toNat_ofNat, Nat.mod_eq_of_lt ht]
    omega
  simp only [event, hc, rxPollEvent, readNow_fixed hn, mask31_ofNat]
  rw [if_neg hout]
  rfl

/-- A Low after a High is the edge (42_line_receiver.md R263). -/
theorem event_rxEdge_falling {t : Time31} {rest : List Level} {s : State} (hc : s.ctl = .rxEdge t)
    (hprev : s.rxPrev = .high) (hpins : s.env.pins = .low :: rest) :
    event s = .next (enterWindow 0 { pinRead (.rxEdge t) .low rest s with rxTedge := t, rxShift := 0 }) := by
  have hread := readRxPin_fixed hpins
  have hfall : fallingEdge s.rxPrev (readRxPin s).1 = true := by rw [hread, hprev]; rfl
  have hevent : event s = .next (rxEdgeEvent t s) := by simp only [event, hc]
  rw [hevent, rxEdgeEvent, if_pos hfall, hread]
  rfl

/-- RECEIVE has read the call time, the line's level, and the edge at this time; these answers are left. -/
def edgeSeen (tcall tedge : Nat) (nows : List Word32) (pins : List Level) (s : State) : State :=
  enterWindow 0 { accept s with
    rxTcall := BitVec.ofNat 31 tcall, rxTedge := BitVec.ofNat 31 tedge, rxPrev := .high, rxShift := 0
    env := { s.env with nows := nows, pins := pins, drawn := s.env.drawn + 4 }
    trace := [.readPin s.cfgRxpin .low, .now (BitVec.ofNat 32 tedge), .readPin s.cfgRxpin .high,
      .now (BitVec.ofNat 32 tcall)] ++ s.trace }

theorem receive_edge {s : State} {tcall tedge : Nat} {nows : List Word32} {pins : List Level} (hs : Ready s)
    (hp : s.port = none) (hcall : tcall ≤ tedge) (hlt : tedge - tcall < s.params.rxTimeoutUs)
    (htedge : tedge < 2 ^ 31) (hnows : s.env.nows = BitVec.ofNat 32 tcall :: BitVec.ofNat 32 tedge :: nows)
    (hpins : s.env.pins = .high :: .low :: pins) :
    ∃ t, exec .receive s = .next t ∧ runs 3 t = .next (edgeSeen tcall tedge nows pins s) := by
  have hstart := receiveStarts s hs
  rw [drawNow_fixed _ _ _ hnows, mask31_ofNat] at hstart
  have htcall : (BitVec.ofNat 31 tcall).toNat = tcall := by rw [BitVec.toNat_ofNat]; omega
  let s₁ : State := { s with
    reqBusy := true, response := none, rxState := .edgeWait, ctl := .rxFirst, rxTcall := BitVec.ofNat 31 tcall
    env := { s.env with nows := BitVec.ofNat 32 tedge :: nows, drawn := s.env.drawn + 1 }
    trace := .now (BitVec.ofNat 32 tcall) :: s.trace }
  let s₂ : State := { pinRead .rxPoll .high (.low :: pins) s₁ with rxPrev := .high }
  let s₃ := timerRead (.rxEdge (BitVec.ofNat 31 tedge)) (BitVec.ofNat 32 tedge) nows s₂
  have hpoll : event s₂ = .next s₃ := event_rxPoll_inTime rfl htedge rfl (htcall ▸ hcall) (htcall ▸ hlt)
  refine ⟨s₁, hstart, ?_⟩
  calc runs 3 s₁
    _ = runs 2 s₂ := runs_event (s := s₁) hp rfl (event_rxFirst rfl hpins) 2
    _ = runs 1 s₃ := runs_event (s := s₂) hp rfl hpoll 1
    _ = _ := runs_last (s := s₃) hp rfl (event_rxEdge_falling rfl rfl rfl)

/-- After the edge every window is left, and its samples are due at these times (42_line_receiver.md R264). -/
theorem atWindow_edgeSeen {s : State} {tcall tedge : Nat} {nows : List Word32} {levels : List Level} (hs : Ready s)
    (hp : s.port = none) (hlen : levels.length = windowCount s.cfgRxbits.toNat s.cfgStop.toNat)
    (hstops : ∀ l ∈ levels.drop (2 * s.cfgRxbits.toNat), l = .high) {u : State}
    (hu : u = edgeSeen tcall tedge nows (levels.flatMap fun l => [l, l]) s)
    (hlate : windowStart u levels.length < 2 ^ 31)
    (hnows : nows = (List.range levels.length).flatMap
      fun k => [BitVec.ofNat 32 (dueTime u k 1), BitVec.ofNat 32 (dueTime u k 3)]) : AtWindow levels u := by
  obtain ⟨-, hv, hconfig⟩ := hs
  rw [List.range_eq_range'] at hnows
  rw [hlen] at hlate
  subst hu
  exact ⟨hp, rfl, rfl, hconfig, hv, (Nat.zero_add _).trans hlen, hlate, hnows, rfl, hstops, Nat.pow_pos (by decide)⟩

/-- Settles O47: the edge, and then window after window. -/
theorem receiveCollectsSymbols : Obligations.ReceiveCollectsSymbols := by
  unfold Obligations.ReceiveCollectsSymbols
  intro s levels tcall tedge hs hp hb n w start hlen hstops hcall htimeout hlate hnows hpins shift
  obtain ⟨⟨-, hcs, -⟩, hv, hconfig⟩ := id hs
  obtain ⟨-, -, hbits, -⟩ := (configLegal_iff s).1 hconfig hv
  have htedge : tedge < 2 ^ 31 := (Nat.le_add_right tedge _).trans_lt hlate
  obtain ⟨t, ht, hedge⟩ := receive_edge hs hp hcall htimeout htedge hnows hpins
  generalize hu : edgeSeen tcall tedge _ _ s = u at hedge
  have hstart (k : Nat) : windowStart u k = start k := by
    rw [← hu]
    show (BitVec.ofNat 31 tedge).toNat + _ = _
    rw [BitVec.toNat_ofNat, Nat.mod_eq_of_lt htedge]
    rfl
  have hdue (k q : Nat) : dueTime u k q = start k + q * hb / 4 := by
    rw [dueTime, hstart, ← hu]
    rfl
  have hwindow : AtWindow levels u := by
    refine atWindow_edgeSeen hs hp hlen (fun l hl => List.eq_of_mem_replicate (hstops ▸ hl)) hu.symm ?_ ?_
    · rw [hstart, hlen]
      exact hlate
    · simp only [hdue, one_mul, hlen]
  have hne : levels ≠ [] := List.ne_nil_of_length_pos (by omega)
  obtain ⟨env, trace, henv, hpins', hrun⟩ := hwindow.run_all hne
  rw [hlen] at hrun
  subst hu
  exact ⟨t, _, ht, (runs_add hedge _).trans hrun, rfl, rfl, rfl, rfl, rfl, rfl, rfl, rfl, hcs, henv, hpins'⟩

end Sys2Proof.Safety
end
